-- ==== Sys2Proof/Word.lean ====
section
/-! DEFINITION. The bit vectors and index types of the Morlen 416 (00, Numbering of units). -/
namespace Sys2Proof

/-- A byte of a record, of a register field or of a lane. -/
abbrev Byte := BitVec 8

/-- A 16-bit field, or a set of panels (bit n for panel n, R168). -/
abbrev Half := BitVec 16

/-- A register, an address or a period number. -/
abbrev Word := BitVec 32

/-- Panels are numbered 0 to 15 by slot. -/
abbrev PanelId := Fin 16

/-- Lanes are numbered 0 to 3. -/
abbrev LaneId := Fin 4

/-- The selects of a lane are numbered 0 to 3. -/
abbrev Select := Fin 4

/-- Profiles are numbered 0 to 3. -/
abbrev ProfileId := Fin 4

/-- Gates are numbered 0 to 7. -/
abbrev GateId := Fin 8

/-- The two line buffers of a lane unit (R136). -/
abbrev BufId := Fin 2

end Sys2Proof
end

