-- ==== Sys2Proof/Syntax.lean ====
section
/-! DEFINITION. The commands of the part: one constructor per row of spec/opcode_table.json. -/
namespace Sys2Proof

/-- The twelve registers of the register window (R168). -/
inductive Reg where
  | ident | partControl | partStatus | period | ctlArg | ctlRequest
  | ctlResult | nudge | notify | fault | irqLevels | irqStatus
  deriving DecidableEq, Repr

/-- The response to a read transaction: OK with its bytes, or ERROR (R156). -/
inductive ReadResp where
  | ok (bytes : List Byte)
  | error
  deriving DecidableEq, Repr

/-- The response to a write transaction (R156). -/
inductive WriteResp where
  | ok
  | error
  deriving DecidableEq, Repr

/-- A qualified edge: the level the conditioner accepts, and whether the edge falls together with the period boundary still
to come (R100, R102, log 31). -/
structure Edge where
  level : Bool
  together : Bool
  deriving DecidableEq, Repr

/-- A park wait that has run out: the panel, and whether the boundary that brought it to 0 falls together with the completion
of the panel's transaction and is taken first (R40, log 36). -/
structure WaitEnd where
  panel : PanelId
  together : Bool
  deriving DecidableEq, Repr

/-- The commands: register writes, pin events, bus responses, and the events the part's blocks take by themselves. -/
inductive Instr where
  /-- PIN_RESET (R170). -/
  | pinReset
  /-- SOFT_RESET (R170): a PART_CONTROL write with RESET 1; PERIOD_UNITS and TOL_ENABLE are of the same write. -/
  | softReset (units : BitVec 6) (tolEnable : Bool)
  /-- DRAIN_COMPLETE (R170). -/
  | drainComplete
  /-- RUN_START (R169): a PART_CONTROL write with RUN 1, RESET 0. -/
  | runStart (units : BitVec 6) (tolEnable : Bool)
  /-- RUN_STOP (R169): a PART_CONTROL write with RUN 0, RESET 0. -/
  | runStop (units : BitVec 6) (tolEnable : Bool)
  /-- PERIOD_UNITS_WRITE (R112): a PART_CONTROL write that changes PERIOD_UNITS alone. -/
  | periodUnitsWrite (units : BitVec 6)
  /-- TOL_ENABLE_WRITE (R166): a PART_CONTROL write that changes TOL_ENABLE alone. -/
  | tolEnableWrite (tolEnable : Bool)
  /-- NUDGE (R16): a write of NUDGE, one bit per panel. -/
  | nudge (panels : Half)
  /-- NOTIFY_CLEAR (R174): a write of NOTIFY. -/
  | notifyClear (bits : Half)
  /-- FAULT_CLEAR (R174): a write of FAULT. -/
  | faultClear (bits : Half)
  /-- CTL_DONE_CLEAR (R175): a write of 1 to CTL_DONE in IRQ_STATUS. -/
  | ctlDoneClear
  /-- CTL_OVERRUN_CLEAR (R175): a write of 1 to CTL_OVERRUN in PART_STATUS, or to the OVERRUN summary in IRQ_STATUS. -/
  | ctlOverrunClear (viaIrqStatus : Bool)
  /-- IRQ_LEVELS_WRITE (R175). -/
  | irqLevelsWrite (levels : Byte)
  /-- REGISTER_WRITE (R168): a write of a whole register. -/
  | registerWrite (reg : Reg) (value : Word)
  /-- LOAD_PROFILE (R31). -/
  | loadProfile (target : Byte)
  /-- SET_LANE (R114). -/
  | setLane (target : Byte)
  /-- SET_TOLERANCE (R162). -/
  | setTolerance (target : Byte)
  /-- BIND (R33). -/
  | bind (target : Byte)
  /-- UNBIND (R37). -/
  | unbind (target : Byte)
  /-- PARK (R39). -/
  | park (target : Byte)
  /-- RESUME (R42). -/
  | resume (target : Byte)
  /-- REWIND (R43). -/
  | rewind (target : Byte)
  /-- REPORT (R44). -/
  | report (target : Byte)
  /-- RETUNE_TE (R109). -/
  | retuneTe (target : Byte)
  /-- BREAK_GATE (R152). -/
  | breakGate (target : Byte)
  /-- BAD_REQUEST (R172): a CTL_REQUEST write with a code not in the table. -/
  | badRequest (code target : Byte)
  /-- QUALIFIED_EDGE (R96): the conditioner of a slot accepts a new pin level. -/
  | qualifiedEdge (p : PanelId) (edge : Edge)
  /-- THROTTLE_HIGH (R126). -/
  | throttleHigh
  /-- THROTTLE_LOW (R126). -/
  | throttleLow
  /-- TOL_ACCEPT (R165): the TOL_ACCEPT input rises. -/
  | tolAccept
  /-- PERIOD_BOUNDARY (R113). -/
  | periodBoundary
  /-- FORCED_PARK (R41). -/
  | forcedPark (w : WaitEnd)
  /-- SETTLE_END (R64). -/
  | settleEnd (p : PanelId)
  /-- EXPIRY (R72), of one panel's window. -/
  | expiry (p : PanelId)
  /-- HOLD_EXPIRY (R99). -/
  | holdExpiry (p : PanelId)
  /-- TE_LOST (R102). -/
  | teLost (p : PanelId)
  /-- GATE_TIMEOUT (R150). -/
  | gateTimeout
  /-- TICKET_FETCH (R8). -/
  | ticketFetch (p : PanelId)
  /-- MEMORY_REQUEST_SENT (R158). -/
  | memoryRequestSent
  /-- TICKET_READ_ANSWERED (R10). -/
  | ticketReadAnswered (p : PanelId) (resp : ReadResp)
  /-- TAKEN_WRITE_ANSWERED (R12). -/
  | takenWriteAnswered (resp : WriteResp)
  /-- LINK_POLL_ANSWERED (R14). -/
  | linkPollAnswered (p : PanelId) (resp : ReadResp)
  /-- LANE_GRANT (R125): a decision of the lane's arbiter. -/
  | laneGrant (l : LaneId)
  /-- BYTE_TIME_END (R135); ldi is what LDI held on the sixteen edges of LCLK in the byte time, the first in bit 15. -/
  | byteTimeEnd (l : LaneId) (ldi : Half)
  /-- PIXEL_FETCH_ANSWERED (R136): the response to the transaction at one offset of the row fetched into a buffer. -/
  | pixelFetchAnswered (l : LaneId) (buf : BufId) (offset : Nat) (resp : ReadResp)
  /-- TRANSACTION_COMPLETION (R131). -/
  | transactionCompletion (l : LaneId)
  /-- GAP_AFTER_ABORT_END (R134). -/
  | gapAfterAbortEnd (l : LaneId)
  /-- STATUS_WRITE_ANSWERED (R75). -/
  | statusWriteAnswered (resp : WriteResp)
  /-- REPLY_WRITE_ANSWERED (R77). -/
  | replyWriteAnswered (resp : WriteResp)
  /-- PROFILE_READ_ANSWERED (R31), one transaction of the control read. -/
  | profileReadAnswered (offset : Nat) (resp : ReadResp)
  /-- LANE_RECORD_READ_ANSWERED (R115). -/
  | laneRecordReadAnswered (offset : Nat) (resp : ReadResp)
  /-- TOLERANCE_READ_ANSWERED (R162). -/
  | toleranceReadAnswered (offset : Nat) (resp : ReadResp)
  /-- DESCRIPTOR_READ_ANSWERED (R33). -/
  | descriptorReadAnswered (offset : Nat) (resp : ReadResp)
  /-- REPORT_WRITE_ANSWERED (R44). -/
  | reportWriteAnswered (resp : WriteResp)
  /-- TE_FILTER_SAMPLE (R96): the levels of the sixteen TE pins at one cycle of the filter clock. -/
  | teFilterSample (levels : Half)
  /-- TOL_ACCEPT_LOW (R165): the TOL_ACCEPT input falls. -/
  | tolAcceptLow
  deriving DecidableEq, Repr

end Sys2Proof
end

