-- ==== Sys2Proof/Config.lean ====
section
/-! DEFINITION. The free values: what the manual leaves open and no Lean term can evaluate. -/
namespace Sys2Proof

/-- The order, inside one event, of things the manual does not order: the heads of several panels that may act at the
same moment (R47, R153), the link polls of several panels that one event issues (R15, R16). Applied to a counter that
State holds, and taken modulo the number of candidates. Free value, log 5. -/
opaque Config.freeChoice : Nat → Nat

/-- The level of TOL_DATA while TOL_VALID is low, which no rule gives. Free value, log 24. -/
opaque Config.idleTolData : Nat → Half

end Sys2Proof
end

