-- ==== Sys2Proof/Machine/State.lean ====
section
/-! DEFINITION. The state of the part, as plain data, and its values after a pin reset. -/
namespace Sys2Proof.Machine

/-! ### Why a step can stop -/

/-- The bus contract of R156 gives no other response than these two rule out. -/
inductive Fault where
  /-- Raised by a response command that names no outstanding transaction of its kind: R156 gives every transaction
  exactly one response, and none to what was not sent. Safe: the model stops where the bus breaks its contract. -/
  | noSuchTransaction
  /-- Raised by an OK read response whose byte count is not its transaction's: R156. Safe, as above. -/
  | wrongLength
  deriving DecidableEq, Repr

/-- Why a command has no meaning. -/
inductive Refusal where
  /-- Raised by a dispatch arm whose command has no meaning in the model. No arm raises it. Safe. -/
  | notModelled (mnemonic : String)
  deriving DecidableEq, Repr

/-! ### Names of the manual -/

/-- The part state (R168, R169). -/
inductive PartState where
  | stopped | running | resetting
  deriving DecidableEq, Repr

/-- The panel states (R23). -/
inductive PanelState where
  | unbound | ready | parking | parked | halted
  deriving DecidableEq, Repr

/-- The display sub-state (R23). -/
inductive Display where
  | awake | settlingToAwake | settlingToAsleep | asleep
  deriving DecidableEq, Repr

/-- The tear states (R95); `opened` is the manual's OPEN. -/
inductive TearState where
  | untracked | closed | opened
  deriving DecidableEq, Repr

/-- The fault codes of a panel (R23). -/
inductive FaultCode where
  | none | fetchError | notPosted | malformed | linkBad | pixelError | writebackError | teLost
  deriving DecidableEq, Repr

/-- The tear policies (R28). -/
inductive TearPolicy where
  | off | blank
  deriving DecidableEq, Repr

/-- Which qualified edge is a TE event (R28). -/
inductive TeEdge where
  | rising | falling | both
  deriving DecidableEq, Repr

/-- Stable samples the conditioner requires (R28). -/
inductive TeFilter where
  | none | two | four | eight
  deriving DecidableEq, Repr

/-- The untracked fallback (R28). -/
inductive Fallback where
  | wait | free
  deriving DecidableEq, Repr

/-- Panel pixel formats (R90). -/
inductive PixFmt where
  | p16 | p18 | p24
  deriving DecidableEq, Repr

/-- Source pixel formats (R89). -/
inductive SrcFmt where
  | s16 | s24 | s32
  deriving DecidableEq, Repr

/-- The state field of a ticket's status word (R4). -/
inductive Status where
  | posted | taken | done | doneLate | superseded | expired | cancelled | aborted | gateBroken | failed
  deriving DecidableEq, Repr

/-- The reason field of a ticket's status word (R5). -/
inductive Reason where
  | none | malformed | badRect | badScroll | noCode | badGate | gateMismatch | pixelError
  | unbind | parkForced | rewind | timeout | memberLost | request
  deriving DecidableEq, Repr

/-- The result codes of a control request (R172). -/
inductive Result where
  | ok | badRequest | notBound | inUse | badState | busError | noLane | noProfile | selectInUse | badGeometry
  | badBudget | badField | noBandwidth | parkForced | notArmed | reset
  deriving DecidableEq, Repr

/-- The request state of CTL_RESULT (R168). -/
inductive ReqState where
  | idle | busy | done
  deriving DecidableEq, Repr

/-- The tolerance levels, lowest first (R164). -/
inductive TolLevel where
  | active | low | medium | high
  deriving DecidableEq, Repr

/-- How falls in level are followed (R162). -/
inductive TolPolicy where
  | stepped | direct
  deriving DecidableEq, Repr

/-! ### Tickets -/

/-- A rectangle in logical panel coordinates (R3). -/
structure Rect where
  x : Nat
  y : Nat
  w : Nat
  h : Nat
  deriving DecidableEq, Repr

/-- A colour of 8 bits per component (R3, R91). -/
structure Rgb where
  r : Byte
  g : Byte
  b : Byte
  deriving DecidableEq, Repr

/-- The work of a ticket: its kind with the body fields of that kind (R2, R3). -/
inductive Body where
  | draw (rect : Rect) (source : Word) (stride : Nat) (fmt : SrcFmt)
  | fill (rect : Rect) (colour : Rgb)
  | scroll (offset : Nat)
  /-- The parameters are the first `count` bytes: the others are ignored (R3). -/
  | send (code : Byte) (params : List Byte)
  | read (code : Byte) (count : Nat)
  | sleep
  | wake
  | fence
  | gate (gate : GateId) (mask : Half) (timeout : Nat)
  deriving DecidableEq, Repr

/-- A ticket copy (R1): address, kind and body, flags, tag, and the latest period when DEADLINE is set. -/
structure Ticket where
  addr : Word
  body : Body
  notify : Bool
  keep : Bool
  align : Bool
  latest : Option Word
  tag : Half
  deriving DecidableEq, Repr

/-- An entry of a ticket window: the copy, and whether the last boundary found it passed by the count (R72, log 13). -/
structure Entry where
  ticket : Ticket
  due : Bool
  deriving DecidableEq, Repr

/-- The head progress (R24), and the rows of a cut strip that an ABORTED detail will count (R5, log 12). -/
structure Head where
  started : Bool
  piece : Nat
  rows : Nat
  offset : Nat
  cut : Nat
  deriving DecidableEq, Repr

/-- The mode and address of a chain cursor (R7). -/
inductive Cursor where
  | nextKnown (addr : Word)
  | watch (addr : Word)
  deriving DecidableEq, Repr

/-- The chain access state (R7). -/
inductive Access where
  | idle | fetching | polling
  deriving DecidableEq, Repr

/-! ### Panel records -/

/-- The descriptor copy (R28, R177). -/
structure Descriptor where
  lane : LaneId
  select : Select
  profile : ProfileId
  intervalCode : Nat
  width : Nat
  height : Nat
  tfa : Nat
  vsa : Nat
  bfa : Nat
  budget : Nat
  allowance : Nat
  policy : TearPolicy
  edge : TeEdge
  filter : TeFilter
  skip : Nat
  hold : Nat
  teWatch : Nat
  fallback : Fallback
  priority : Nat
  chainStart : Word
  deriving DecidableEq, Repr

/-- A TE event that fell together with a boundary (R100, R102, log 31): none, one taken before the boundary still to come
that ends the channel's hold, which opened the window or did not, one taken before a boundary still to come that ends no hold
but would bring the watch from 0 to the TE watch value, or one whose window the boundary has left open at hold 0, where it
stands up to the next boundary. -/
inductive Meeting where
  | none
  | coming (opened : Bool)
  | watched
  | stands
  deriving DecidableEq, Repr

/-- A tear channel (R95). -/
structure Channel where
  edge : TeEdge
  filter : TeFilter
  skip : Nat
  qualified : Bool
  run : Nat
  state : TearState
  budget : Nat
  hold : Nat
  skipCtr : Nat
  watch : Nat
  armed : Bool
  estimate : Nat
  base : Bool
  lastTe : Word
  meeting : Meeting
  deriving DecidableEq, Repr

/-- A panel record (R23), with the chain fetcher's, scheduler's, tear tracker's and gate table's fields for the slot. -/
structure Panel where
  state : PanelState
  desc : Descriptor
  profile : ProfileId
  unbindPending : Bool
  parkWait : Nat
  cursor : Cursor
  access : Access
  /-- The copy and the link value of a fetch whose TAKEN write is outstanding (R1, R12). -/
  fetched : Option (Ticket × Word)
  repoll : Bool
  /-- RESUME was taken while an access was under way (R17, log 11). -/
  resumePoll : Bool
  window : List Entry
  head : Head
  cont : Bool
  display : Display
  settle : Nat
  scroll : Nat
  credit : Nat
  tear : Channel
  fault : FaultCode
  gateAt : Option GateId
  deriving DecidableEq, Repr

/-- A profile slot (R30). A code that is not present is none. -/
structure Profile where
  valid : Bool
  k : Nat
  fmt : PixFmt
  linkMode : Fin 4
  lsbFirst : Bool
  columnCode : Byte
  rowCode : Byte
  memoryCode : Byte
  continueCode : Option Byte
  scrollCode : Option Byte
  sleepCode : Option Byte
  wakeCode : Option Byte
  readDummy : Nat
  sleepSettle : Nat
  wakeSettle : Nat
  deriving DecidableEq, Repr

/-! ### Lanes -/

/-- The link states (R134). -/
inductive LinkState where
  | idle | shifting | stalled | aborting | ending | gapAfterAbort
  deriving DecidableEq, Repr

/-- A byte time: a command byte, a data byte, or a byte clocked in from LDI (R131, R133). -/
inductive LaneByte where
  | cmd (b : Byte)
  | data (b : Byte)
  | clockIn
  deriving DecidableEq, Repr

/-- LDO: a driven level, or released (R129). -/
inductive Ldo where
  | driven (level : Bool)
  | released
  deriving DecidableEq, Repr

/-- The kind of a lane transaction; a strip has its rows (R132). -/
inductive Work where
  | strip (rows : Nat)
  | scroll (offset : Nat)
  | send
  | read
  | sleep
  | wake
  deriving DecidableEq, Repr

/-- The pixel rows of a DRAW strip: where they are read and how far fetching and sending have come (R92, R136). -/
structure DrawFeed where
  source : Word
  stride : Nat
  src : SrcFmt
  dst : PixFmt
  width : Nat
  /-- Source row of the strip's first row (R81). -/
  firstRow : Nat
  rows : Nat
  /-- Next row of the strip to request. -/
  next : Nat
  /-- Row of the strip being sent, and the position of its next byte. -/
  cur : Nat
  pos : Nat
  deriving DecidableEq, Repr

/-- Where a transaction's bytes come from once its unit bytes are sent (R135). -/
inductive Feed where
  | none
  /-- The converted pixel of a FILL, and the bytes of the strip left to send. -/
  | fill (pixel : List Byte) (left : Nat)
  | draw (d : DrawFeed)
  deriving DecidableEq, Repr

/-- A lane transaction in flight (R131, R132). -/
structure Tx where
  panel : PanelId
  select : Select
  mode : Fin 4
  lsbFirst : Bool
  rateCode : Nat
  work : Work
  units : List LaneByte
  feed : Feed
  /-- Dummy bytes of a READ still to be dropped (R133). -/
  dummy : Nat
  deriving DecidableEq, Repr

/-- A line buffer (R136); `fetching` holds the source bytes that have arrived, by offset (log 10). -/
inductive LineBuf where
  | free
  | fetching (row : Nat) (want : Nat) (got : List (Nat × List Byte)) (err : Bool)
  | held (row : Nat) (bytes : List Byte)
  /-- The strip was cut and a sent transaction of the fetch is not yet answered. -/
  | reserved
  deriving DecidableEq, Repr

/-- What ordered the abort of a lane's transaction (R139). -/
inductive AbortCause where
  | unbind | forcedPark | rewind | pixelError | softReset
  deriving DecidableEq, Repr

/-- A lane: setup record and accounts (R114 to R120), lane unit (R129 to R142). -/
structure Lane where
  rateCode : Nat
  capacity : Nat
  reserve : Nat
  reserveCredit : Nat
  lastSelect : Select
  committed : Nat
  link : LinkState
  tx : Option Tx
  cause : Option AbortCause
  shift : Option LaneByte
  stage : Option LaneByte
  bufA : LineBuf
  bufB : LineBuf
  reply : List Byte
  /-- The select that is driven low; the other selects are high (R129). -/
  sel : Option Select
  /-- The idle level LCLK keeps between pulses: high for modes 2 and 3 (R130). -/
  lclk : Bool
  ldo : Ldo
  ldc : Bool
  deriving DecidableEq, Repr

/-! ### Gates -/

/-- A gate entry (R143). `armed` is the state ARMED, its negation FREE. -/
structure Gate where
  armed : Bool
  mask : Half
  list : List PanelId
  timeout : Option Nat
  align : Bool
  deriving DecidableEq, Repr

/-! ### Memory port -/

/-- The records a control read reads, with the request's target (R157, R172). -/
inductive RecordKind where
  | profile (slot : ProfileId)
  | laneRecord (lane : LaneId)
  | tolerance
  | descriptor (panel : PanelId)
  deriving DecidableEq, Repr

/-- Who gets a read transaction's response, and the offset of its bytes in the request (R157). -/
inductive ReadOwner where
  | pixel (lane : LaneId) (buf : BufId) (offset : Nat)
  | ticket (panel : PanelId)
  | link (panel : PanelId)
  | control (kind : RecordKind) (offset : Nat)
  deriving DecidableEq, Repr

/-- A read transaction (R156). -/
structure ReadTxn where
  owner : ReadOwner
  addr : Word
  len : Nat
  deriving DecidableEq, Repr

/-- What a write is, and for which panel (R157, R159). `ofRequest` marks a status write that the control request in
progress waits for (R38, R41, R43, R152). -/
inductive WriteKind where
  | taken (panel : PanelId)
  | status (panel : PanelId) (state : Status) (notify : Bool) (ofRequest : Bool)
  | reply (panel : PanelId)
  | report
  deriving DecidableEq, Repr

/-- A write transaction (R156). -/
structure WriteTxn where
  kind : WriteKind
  addr : Word
  data : List Byte
  deriving DecidableEq, Repr

/-- The memory port (R156 to R161). -/
structure Port where
  /-- Pixel fetch transactions taken and not yet sent, per lane. -/
  pixQ : Vector (List ReadTxn) 4
  /-- Ticket reads and link polls taken and not yet sent, in the order taken. -/
  chainQ : List ReadTxn
  /-- Control read transactions taken and not yet sent. -/
  ctlQ : List ReadTxn
  /-- The write queue, oldest first. -/
  writeQ : List WriteTxn
  outReads : List ReadTxn
  /-- The outstanding writes in the order sent. -/
  outWrites : List WriteTxn
  lastLane : LaneId
  deriving DecidableEq, Repr

/-! ### Control port, timer, tolerance reporter, pins -/

/-- The control request in progress and what it waits for (R171, R172). -/
inductive ReqOp where
  | none
  /-- A control read of `want` bytes; the parts answered OK, by offset, and whether one was answered ERROR. -/
  | reading (kind : RecordKind) (want : Nat) (got : List (Nat × List Byte)) (err : Bool)
  | reporting
  | unbindWait (p : PanelId)
  | unbindWrites (p : PanelId)
  | parkWait (p : PanelId)
  /-- The park wait has run out and the abort is ordered (R41). -/
  | parkForced (p : PanelId)
  | parkWrite (p : PanelId)
  | rewindWait (p : PanelId) (addr : Word)
  | rewindWrites (p : PanelId)
  | breakWrites (g : GateId)
  deriving DecidableEq, Repr

/-- The control port's registers and the request in progress (R168 to R175). -/
structure Control where
  units : BitVec 6
  tolEnable : Bool
  arg : Word
  code : Byte
  target : Byte
  resState : ReqState
  result : Result
  done : Bool
  overrun : Bool
  notify : Half
  fault : Half
  levels : Byte
  op : ReqOp
  /-- A write of the request in progress was answered ERROR (R38, R43, R152). -/
  busErr : Bool
  deriving DecidableEq, Repr

/-- The period timer (R112): the count, and the length and progress of the period in progress. -/
structure Timer where
  count : Word
  period : Option (Nat × Nat)
  deriving DecidableEq, Repr

/-- The tolerance record (R162). -/
structure TolRecord where
  lowMin : Nat
  mediumMin : Nat
  highMin : Nat
  lowValue : Half
  mediumValue : Half
  highValue : Half
  activeValue : Half
  limit : Half
  policy : TolPolicy
  deriving DecidableEq, Repr

/-- The tolerance reporter (R162 to R167). TOL_VALID is high exactly while a message is in flight. -/
structure Tolerance where
  record : TolRecord
  loaded : Bool
  level : TolLevel
  inFlight : Option Half
  slot : Option Half
  deriving DecidableEq, Repr

/-- The levels of the input pins (00, Signal summary). -/
structure Pins where
  te : Half
  throttle : Bool
  tolAccept : Bool
  deriving DecidableEq, Repr

/-- The state of the part. -/
structure State where
  part : PartState
  timer : Timer
  ctl : Control
  tol : Tolerance
  port : Port
  panels : Vector Panel 16
  profiles : Vector Profile 4
  lanes : Vector Lane 4
  gates : Vector Gate 8
  pins : Pins
  /-- The model's own: how many free choices have been used (log 5, 6). -/
  freeCount : Nat
  /-- The commands that wait, first in first out. -/
  pending : List Instr
  deriving DecidableEq, Repr

/-! ### Values after a pin reset -/

/-- The descriptor copy of an unbound slot: all fields 0 (R45). -/
def Descriptor.zero : Descriptor where
  lane := 0
  select := 0
  profile := 0
  intervalCode := 0
  width := 0
  height := 0
  tfa := 0
  vsa := 0
  bfa := 0
  budget := 0
  allowance := 0
  policy := .off
  edge := .rising
  filter := .none
  skip := 0
  hold := 0
  teWatch := 0
  fallback := .wait
  priority := 0
  chainStart := 0

/-- Head progress cleared (R24). -/
def Head.clear : Head where
  started := false
  piece := 0
  rows := 0
  offset := 0
  cut := 0

/-- A tear channel after a pin reset, whose qualified level is the pin's (R111). -/
def Channel.reset (pin : Bool) : Channel where
  edge := .rising
  filter := .none
  skip := 1
  qualified := pin
  run := 0
  state := .untracked
  budget := 0
  hold := 0
  skipCtr := 0
  watch := 0
  armed := false
  estimate := 0
  base := false
  lastTe := 0
  meeting := .none

/-- A panel record after a pin reset (R45, R7, R111, R118, R144). -/
def Panel.reset (pin : Bool) : Panel where
  state := .unbound
  desc := .zero
  profile := 0
  unbindPending := false
  parkWait := 0
  cursor := .nextKnown 0
  access := .idle
  fetched := none
  repoll := false
  resumePoll := false
  window := []
  head := .clear
  cont := false
  display := .awake
  settle := 0
  scroll := 0
  credit := 0
  tear := .reset pin
  fault := .none
  gateAt := none

/-- A profile slot after a pin reset: invalid, every field 0 (R45). -/
def Profile.reset : Profile where
  valid := false
  k := 0
  fmt := .p16
  linkMode := 0
  lsbFirst := false
  columnCode := 0
  rowCode := 0
  memoryCode := 0
  continueCode := none
  scrollCode := none
  sleepCode := none
  wakeCode := none
  readDummy := 0
  sleepSettle := 0
  wakeSettle := 0

/-- A lane after a pin reset (R116, R142). -/
def Lane.reset : Lane where
  rateCode := 0
  capacity := 0
  reserve := 0
  reserveCredit := 0
  lastSelect := 3
  committed := 0
  link := .idle
  tx := none
  cause := none
  shift := none
  stage := none
  bufA := .free
  bufB := .free
  reply := []
  sel := none
  lclk := false
  ldo := .driven false
  ldc := true

/-- A FREE gate entry (R143, R155). -/
def Gate.free : Gate where
  armed := false
  mask := 0
  list := []
  timeout := none
  align := false

/-- The memory port after a pin reset (R161). -/
def Port.reset : Port where
  pixQ := Vector.replicate 4 []
  chainQ := []
  ctlQ := []
  writeQ := []
  outReads := []
  outWrites := []
  lastLane := 3

/-- The control port after a pin reset (R168). -/
def Control.reset : Control where
  units := 8
  tolEnable := false
  arg := 0
  code := 0
  target := 0
  resState := .idle
  result := .ok
  done := false
  overrun := false
  notify := 0
  fault := 0
  levels := 0
  op := .none
  busErr := false

/-- The tolerance record with all fields 0 (R167). -/
def TolRecord.zero : TolRecord where
  lowMin := 0
  mediumMin := 0
  highMin := 0
  lowValue := 0
  mediumValue := 0
  highValue := 0
  activeValue := 0
  limit := 0
  policy := .stepped

/-- The tolerance reporter after a pin reset (R167). -/
def Tolerance.reset : Tolerance where
  record := .zero
  loaded := false
  level := .active
  inFlight := none
  slot := none

/-- The input pins at power-on: low, DESIGN CHOICE, since no rule drives them (log 7). -/
def Pins.reset : Pins where
  te := 0
  throttle := false
  tolAccept := false

/-- The part right after a pin reset, with nothing pending (R170). -/
def State.reset : State where
  part := .stopped
  timer := { count := 0, period := none }
  ctl := .reset
  tol := .reset
  port := .reset
  panels := Vector.replicate 16 (Panel.reset false)
  profiles := Vector.replicate 4 Profile.reset
  lanes := Vector.replicate 4 Lane.reset
  gates := Vector.replicate 8 Gate.free
  pins := .reset
  freeCount := 0
  pending := []

end Sys2Proof.Machine
end

