-- ==== Sys2Proof/Machine/Operands.lean ====
section
/-! DEFINITION. Operand forms: byte order, code values, and the layouts of every record in system memory (R176 to R179). -/
namespace Sys2Proof.Machine

/-! ### Byte order (00, Conventions: least significant byte first) -/

/-- Byte i of a record; a byte past the end reads 0, which no caller asks for. -/
def byteAt (bs : List Byte) (i : Nat) : Byte := bs[i]?.getD 0

/-- The number in byte i. -/
def nat8 (bs : List Byte) (i : Nat) : Nat := (byteAt bs i).toNat

/-- The 16-bit number in bytes i and i + 1. -/
def nat16 (bs : List Byte) (i : Nat) : Nat := nat8 bs i + 256 * nat8 bs (i + 1)

/-- The 16-bit field in bytes i and i + 1. -/
def half16 (bs : List Byte) (i : Nat) : Half := BitVec.ofNat 16 (nat16 bs i)

/-- The 32-bit field in bytes i to i + 3. -/
def word32 (bs : List Byte) (i : Nat) : Word :=
  BitVec.ofNat 32 (nat16 bs i + 65536 * nat16 bs (i + 2))

/-- The two bytes of a 16-bit number. -/
def bytes16 (n : Nat) : List Byte := [BitVec.ofNat 8 n, BitVec.ofNat 8 (n / 256)]

/-- The four bytes of a 32-bit word. -/
def bytes32 (w : Word) : List Byte :=
  [w.extractLsb' 0 8, w.extractLsb' 8 8, w.extractLsb' 16 8, w.extractLsb' 24 8]

/-- The bytes at rising offsets, put together from parts that may have arrived in any order. -/
def assemble (parts : List (Nat × List Byte)) : List Byte :=
  parts.foldl (fun acc p => acc ++ p.2) []

/-- Keep the parts of a request in rising order of offset. -/
def insertPart (off : Nat) (bs : List Byte) : List (Nat × List Byte) → List (Nat × List Byte)
  | [] => [(off, bs)]
  | (o, b) :: rest => if off ≤ o then (off, bs) :: (o, b) :: rest else (o, b) :: insertPart off bs rest

/-- A non-zero multiple of n: the address checks of R1, R31, R33, R44, R114, R162. -/
def alignedAddr (n : Nat) (a : Word) : Bool := a ≠ 0 && a.toNat % n == 0

/-! ### Code values -/

/-- R4. -/
def Status.code : Status → Byte
  | .posted => 0 | .taken => 1 | .done => 2 | .doneLate => 3 | .superseded => 4
  | .expired => 5 | .cancelled => 6 | .aborted => 7 | .gateBroken => 8 | .failed => 9

/-- R5. -/
def Reason.code : Reason → Byte
  | .none => 0 | .malformed => 1 | .badRect => 2 | .badScroll => 3 | .noCode => 4 | .badGate => 5
  | .gateMismatch => 6 | .pixelError => 7 | .unbind => 8 | .parkForced => 9 | .rewind => 10
  | .timeout => 11 | .memberLost => 12 | .request => 13

/-- R172. -/
def Result.code : Result → Byte
  | .ok => 0 | .badRequest => 1 | .notBound => 2 | .inUse => 3 | .badState => 4 | .busError => 5
  | .noLane => 6 | .noProfile => 7 | .selectInUse => 8 | .badGeometry => 9 | .badBudget => 10
  | .badField => 11 | .noBandwidth => 12 | .parkForced => 13 | .notArmed => 14 | .reset => 15

/-- R168. -/
def ReqState.code : ReqState → Nat
  | .idle => 0 | .busy => 1 | .done => 2

/-- R168. -/
def PartState.code : PartState → Nat
  | .stopped => 0 | .running => 1 | .resetting => 2

/-- R179; 2 is reserved, and PARKING is never reported (R44). -/
def PanelState.code : PanelState → Byte
  | .unbound => 0 | .ready => 1 | .parking => 2 | .parked => 3 | .halted => 4

/-- R179. -/
def Display.code : Display → Byte
  | .awake => 0 | .settlingToAwake => 1 | .settlingToAsleep => 2 | .asleep => 3

/-- R179. -/
def TearState.code : TearState → Byte
  | .untracked => 0 | .closed => 1 | .opened => 2

/-- R179. -/
def FaultCode.code : FaultCode → Byte
  | .none => 0 | .fetchError => 1 | .notPosted => 2 | .malformed => 3
  | .linkBad => 4 | .pixelError => 5 | .writebackError => 6 | .teLost => 7

/-- R2. -/
def Body.kindCode : Body → Byte
  | .draw .. => 1 | .fill .. => 2 | .scroll _ => 3 | .send .. => 4 | .read .. => 5
  | .sleep => 6 | .wake => 7 | .fence => 8 | .gate .. => 9

/-- R172, R177. -/
def edgeOf : Nat → Option TeEdge
  | 0 => some .rising | 1 => some .falling | 2 => some .both | _ => none

/-- R172, R177. -/
def filterOf : Nat → Option TeFilter
  | 0 => some .none | 1 => some .two | 2 => some .four | 3 => some .eight | _ => none

/-- The stable samples a filter requires; none needs no samples (R96). -/
def TeFilter.samples : TeFilter → Option Nat
  | .none => Option.none | .two => some 2 | .four => some 4 | .eight => some 8

/-- R177. -/
def pixFmtOf : Nat → Option PixFmt
  | 0 => some .p16 | 1 => some .p18 | 2 => some .p24 | _ => none

/-- R176. -/
def srcFmtOf : Nat → Option SrcFmt
  | 0 => some .s16 | 1 => some .s24 | 2 => some .s32 | _ => none

/-- Bytes per pixel of a panel format (R29). -/
def PixFmt.bpp : PixFmt → Nat
  | .p16 => 2 | .p18 => 3 | .p24 => 3

/-- Source bytes per pixel (R92). -/
def SrcFmt.bytes : SrcFmt → Nat
  | .s16 => 2 | .s24 => 3 | .s32 => 4

/-! ### Tickets (R2, R3, R176) -/

/-- The rectangle at bytes 16 to 23. -/
def ticketRect (bs : List Byte) : Rect where
  x := nat16 bs 16
  y := nat16 bs 18
  w := nat16 bs 20
  h := nat16 bs 22

/-- The body of the kind at byte 4, where its "fetch" fields are in range (R3, R11). -/
def ticketBody (bs : List Byte) : Option Body :=
  match nat8 bs 4 with
  | 1 => (srcFmtOf (nat8 bs 30)).map fun f => .draw (ticketRect bs) (word32 bs 24) (nat16 bs 28) f
  | 2 => some (.fill (ticketRect bs) { r := byteAt bs 24, g := byteAt bs 25, b := byteAt bs 26 })
  | 3 => some (.scroll (nat16 bs 16))
  | 4 => if nat8 bs 17 ≤ 40 then some (.send (byteAt bs 16) ((bs.drop 18).take (nat8 bs 17))) else none
  | 5 => if 1 ≤ nat8 bs 17 ∧ nat8 bs 17 ≤ 8 then some (.read (byteAt bs 16) (nat8 bs 17)) else none
  | 6 => some .sleep
  | 7 => some .wake
  | 8 => some .fence
  | 9 => if h : nat8 bs 16 < 8 then some (.gate ⟨nat8 bs 16, h⟩ (half16 bs 18) (nat8 bs 17)) else none
  | _ => none

/-- An image kind: DRAW or FILL. -/
def Body.isImage : Body → Bool
  | .draw .. => true
  | .fill .. => true
  | _ => false

/-- GATE. -/
def Body.isGate : Body → Bool
  | .gate .. => true
  | _ => false

/-- The flags byte: NOTIFY, KEEP, DEADLINE, ALIGN (R176). -/
def ticketFlag (bs : List Byte) (i : Nat) : Bool := (byteAt bs 5).getLsbD i

/-- The copy of the ticket at an address, or none when it is MALFORMED (R1, R11). -/
def parseTicket (addr : Word) (bs : List Byte) : Option Ticket :=
  match ticketBody bs with
  | none => none
  | some body =>
    if ticketFlag bs 2 && !body.isImage then none
    else if ticketFlag bs 3 && !body.isGate then none
    else some {
      addr := addr
      body := body
      notify := ticketFlag bs 0
      keep := ticketFlag bs 1
      align := ticketFlag bs 3
      latest := if ticketFlag bs 2 then some (word32 bs 12) else none
      tag := half16 bs 6 }

/-- The link word of a ticket (R2). -/
def ticketLink (bs : List Byte) : Word := word32 bs 0

/-- Whether the status word read is POSTED (R4, R10). -/
def ticketPosted (bs : List Byte) : Bool := nat8 bs 8 == 0

/-- The status word as it is written: state, reason, detail (R176). -/
def statusBytes (st : Status) (rs : Reason) (detail : Nat) : List Byte :=
  [st.code, rs.code] ++ bytes16 detail

/-! ### Descriptors (R28, R177) -/

/-- The descriptor as read, before its checks. -/
structure RawDescriptor where
  lane : Nat
  select : Nat
  profile : Nat
  intervalCode : Nat
  width : Nat
  height : Nat
  tfa : Nat
  vsa : Nat
  bfa : Nat
  budget : Nat
  allowance : Nat
  policy : Nat
  edge : Nat
  filter : Nat
  skip : Nat
  hold : Nat
  teWatch : Nat
  fallback : Nat
  priority : Nat
  chainStart : Word
  deriving DecidableEq, Repr

/-- R177. -/
def parseDescriptor (bs : List Byte) : RawDescriptor where
  lane := nat8 bs 0
  select := nat8 bs 1
  profile := nat8 bs 2
  intervalCode := nat8 bs 3
  width := nat16 bs 4
  height := nat16 bs 6
  tfa := nat16 bs 8
  vsa := nat16 bs 10
  bfa := nat16 bs 12
  budget := nat16 bs 14
  allowance := nat16 bs 16
  policy := nat8 bs 18
  edge := nat8 bs 19
  filter := nat8 bs 20
  skip := nat8 bs 21
  hold := nat8 bs 22
  teWatch := nat8 bs 23
  fallback := nat8 bs 24
  priority := nat8 bs 25
  chainStart := word32 bs 28

/-- The fields step 7 of BIND tests (R34), except the alignment of the chain start; the copy that they allow. -/
def RawDescriptor.typed (d : RawDescriptor) (lane : LaneId) (profile : ProfileId) : Option Descriptor :=
  if hs : d.select < 4 then
    match edgeOf d.edge, filterOf d.filter with
    | some e, some f =>
      if d.policy ≤ 1 ∧ d.fallback ≤ 1 ∧ 1 ≤ d.skip ∧ d.skip ≤ 4 ∧ 1 ≤ d.hold ∧ d.hold ≤ 15 ∧ d.intervalCode ≤ 5 ∧
          d.priority ≤ 1 ∧ 1 ≤ d.budget ∧ 1 ≤ d.allowance ∧ alignedAddr 64 d.chainStart then
        some {
          lane := lane
          select := ⟨d.select, hs⟩
          profile := profile
          intervalCode := d.intervalCode
          width := d.width
          height := d.height
          tfa := d.tfa
          vsa := d.vsa
          bfa := d.bfa
          budget := d.budget
          allowance := d.allowance
          policy := if d.policy = 0 then .off else .blank
          edge := e
          filter := f
          skip := d.skip
          hold := d.hold
          teWatch := d.teWatch
          fallback := if d.fallback = 0 then .wait else .free
          priority := d.priority
          chainStart := d.chainStart }
      else none
    | _, _ => none
  else none

/-- The interval of an interval code: 1, 2, 4, 8, 16 or 32 periods (R28). -/
def intervalOf (code : Nat) : Nat := 2 ^ code

/-- The panel's interval I. -/
def Descriptor.interval (d : Descriptor) : Nat := intervalOf d.intervalCode

/-- ceil(A / I) (R29). -/
def loadOf (allowance interval : Nat) : Nat := (allowance + interval - 1) / interval

/-- The panel's load (R29). -/
def Descriptor.load (d : Descriptor) : Nat := loadOf d.allowance d.interval

/-- 3 + 4k + width × bpp: the one-row full strip cost (R29). -/
def oneRowCost (k width bpp : Nat) : Nat := 3 + 4 * k + width * bpp

/-! ### Profiles (R30, R177), lane records and tolerance records (R178) -/

/-- The profile a record gives, where its fields are in range (R31 step 5). -/
def parseProfile (bs : List Byte) : Option Profile :=
  match pixFmtOf (nat8 bs 1) with
  | none => none
  | some f =>
    if hm : nat8 bs 2 < 4 then
      if (nat8 bs 0 = 1 ∨ nat8 bs 0 = 2) ∧ nat8 bs 3 ≤ 1 ∧ nat8 bs 12 ≤ 1 then
        let code (flag i : Nat) : Option Byte := if (byteAt bs 7).getLsbD flag then some (byteAt bs i) else none
        some {
          valid := true
          k := nat8 bs 0
          fmt := f
          linkMode := ⟨nat8 bs 2, hm⟩
          lsbFirst := nat8 bs 3 == 1
          columnCode := byteAt bs 4
          rowCode := byteAt bs 5
          memoryCode := byteAt bs 6
          continueCode := code 0 8
          scrollCode := code 1 9
          sleepCode := code 2 10
          wakeCode := code 3 11
          readDummy := nat8 bs 12
          sleepSettle := nat8 bs 13
          wakeSettle := nat8 bs 14 }
      else none
    else none

/-- Rate code, capacity C and reserve r of a lane record, where they are in range (R114 step 5). -/
def parseLaneRecord (bs : List Byte) : Option (Nat × Nat × Nat) :=
  if nat8 bs 0 ≤ 7 ∧ 1 ≤ nat16 bs 2 ∧ 1 ≤ nat8 bs 1 ∧ nat8 bs 1 ≤ 4 then
    some (nat8 bs 0, nat16 bs 2, nat8 bs 1)
  else none

/-- The tolerance record, where it is sound (R162 step 3). -/
def parseTolerance (bs : List Byte) : Option TolRecord :=
  if nat8 bs 16 ≤ 1 ∧ nat16 bs 0 < nat16 bs 4 ∧ nat16 bs 4 < nat16 bs 8 ∧ nat16 bs 2 ≤ nat16 bs 6 ∧
      nat16 bs 6 ≤ nat16 bs 10 then
    some {
      lowMin := nat16 bs 0
      mediumMin := nat16 bs 4
      highMin := nat16 bs 8
      lowValue := half16 bs 2
      mediumValue := half16 bs 6
      highValue := half16 bs 10
      activeValue := half16 bs 12
      limit := half16 bs 14
      policy := if nat8 bs 16 = 0 then .stepped else .direct }
  else none

/-- Bytes a control read of a record reads (R177, R178). -/
def RecordKind.size : RecordKind → Nat
  | .profile _ => 16
  | .laneRecord _ => 4
  | .tolerance => 20
  | .descriptor _ => 32

/-! ### The report record (R44, R179) -/

/-- The cursor's mode code. -/
def Cursor.code : Cursor → Byte
  | .nextKnown _ => 0
  | .watch _ => 1

/-- The cursor's address. -/
def Cursor.addr : Cursor → Word
  | .nextKnown a => a
  | .watch a => a

/-- The 64 bytes REPORT writes, from a panel record and its head's rows done in total. -/
def reportBytes (r : Panel) (rowsDone : Nat) : List Byte :=
  [r.state.code, r.display.code, r.tear.state.code, r.fault.code]
  ++ bytes16 (if r.tear.state = .opened then r.tear.budget else 0)
  ++ bytes16 r.tear.estimate
  ++ bytes16 r.credit
  ++ [BitVec.ofNat 8 r.window.length, (r.window.head?.map (·.ticket.body.kindCode)).getD 0]
  ++ bytes16 ((r.window.head?.map (·.ticket.tag.toNat)).getD 0)
  ++ bytes16 rowsDone
  ++ [r.cursor.code, (r.gateAt.map (fun g => BitVec.ofNat 8 g.val)).getD 255]
  ++ bytes16 r.scroll
  ++ bytes32 r.cursor.addr
  ++ bytes32 r.tear.lastTe
  ++ List.replicate 36 0

end Sys2Proof.Machine
end

