-- ==== Sys2Proof/Machine/Ops.lean ====
section
/-! DEFINITION. The named operations over the state: the homes of each register and record, the memory port's requests,
the end of a control request, final status writes, and the free choices. -/
namespace Sys2Proof.Machine

/-! ### Homes -/

/-- The sixteen slots. -/
def allPanels : List PanelId := [0, 1, 2, 3, 4, 5, 6, 7, 8, 9, 10, 11, 12, 13, 14, 15]

/-- The four lanes. -/
def allLanes : List LaneId := [0, 1, 2, 3]

/-- The eight gates. -/
def allGates : List GateId := [0, 1, 2, 3, 4, 5, 6, 7]

/-- The record of panel p. -/
def State.panel (s : State) (p : PanelId) : Panel := s.panels[p]

/-- Store the record of panel p. -/
def State.setPanel (s : State) (p : PanelId) (r : Panel) : State := { s with panels := s.panels.set p r }

/-- Change the record of panel p. -/
def State.modPanel (s : State) (p : PanelId) (f : Panel → Panel) : State := s.setPanel p (f (s.panel p))

/-- Lane l. -/
def State.lane (s : State) (l : LaneId) : Lane := s.lanes[l]

/-- Store lane l. -/
def State.setLane (s : State) (l : LaneId) (r : Lane) : State := { s with lanes := s.lanes.set l r }

/-- Change lane l. -/
def State.modLane (s : State) (l : LaneId) (f : Lane → Lane) : State := s.setLane l (f (s.lane l))

/-- Gate entry g. -/
def State.gate (s : State) (g : GateId) : Gate := s.gates[g]

/-- Store gate entry g. -/
def State.setGate (s : State) (g : GateId) (r : Gate) : State := { s with gates := s.gates.set g r }

/-- Profile slot i. -/
def State.profile (s : State) (i : ProfileId) : Profile := s.profiles[i]

/-- Store profile slot i. -/
def State.setProfile (s : State) (i : ProfileId) (r : Profile) : State := { s with profiles := s.profiles.set i r }

/-- Store the memory port. -/
def State.setPort (s : State) (r : Port) : State := { s with port := r }

/-- Store the control port. -/
def State.setCtl (s : State) (r : Control) : State := { s with ctl := r }

/-- Store the tolerance reporter. -/
def State.setTol (s : State) (r : Tolerance) : State := { s with tol := r }

/-- Store the period timer. -/
def State.setTimer (s : State) (r : Timer) : State := { s with timer := r }

/-- Store the part state. -/
def State.setPart (s : State) (r : PartState) : State := { s with part := r }

/-- Store the input pins. -/
def State.setPins (s : State) (r : Pins) : State := { s with pins := r }

/-- The bound profile of panel p, used directly and not copied (R30). -/
def State.profileOf (s : State) (p : PanelId) : Profile := s.profile (s.panel p).profile

/-- Bit p of a set of panels (R168). -/
def hasPanel (m : Half) (p : PanelId) : Bool := m.getLsbD p.val

/-- The set that holds panel p alone. -/
def panelBit (p : PanelId) : Half := BitVec.ofNat 16 (2 ^ p.val)

/-- A slot in any state other than UNBOUND is bound (00, Terms). -/
def Panel.bound (r : Panel) : Bool := r.state ≠ .unbound

/-- READY with the unbind pending flag clear: the panel may begin work (R27). -/
def Panel.active (r : Panel) : Bool := r.state = .ready && !r.unbindPending

/-- The level of the panel's TE input. -/
def State.tePin (s : State) (p : PanelId) : Bool := s.pins.te.getLsbD p.val

/-- A period count passes a period number when the signed difference is greater than 0 (00, Period comparisons). -/
def passes (count latest : Word) : Bool := 0 < (count - latest).toInt

/-- The period in progress is in its last unit of 125 µs, whose end is the boundary (R112, R113, log 2). -/
def Timer.ending (t : Timer) : Bool :=
  match t.period with
  | none => false
  | some (len, progress) => len ≤ progress + 1

/-! ### Free choices (log 5) -/

/-- Take one of several candidates: which one is a free value. -/
def pickFree {α : Type} (n : Nat) : List α → Option (α × List α)
  | [] => none
  | [x] => some (x, [])
  | x :: y :: rest =>
    let xs := x :: y :: rest
    let i := Config.freeChoice n % xs.length
    xs[i]?.map fun c => (c, xs.eraseIdx i)

/-- A list in an order that is a free value. -/
def orderFree {α : Type} : Nat → Nat → List α → List α
  | 0, _, xs => xs
  | fuel + 1, n, xs =>
    match pickFree n xs with
    | none => []
    | some (x, rest) => x :: orderFree fuel (n + 1) rest

/-- Count free choices as used. -/
def State.useFree (s : State) (k : Nat) : State := { s with freeCount := s.freeCount + k }

/-! ### Control requests -/

/-- The one completion of a control request (R171). -/
def State.complete (s : State) (res : Result) : State :=
  s.setCtl { s.ctl with resState := .done, result := res, done := true, op := .none, busErr := false }

/-- The request in progress moves to what it waits for next. -/
def State.setOp (s : State) (op : ReqOp) : State := s.setCtl { s.ctl with op := op }

/-- Set a panel's FAULT bit (R174). -/
def State.setFaultBit (s : State) (p : PanelId) : State := s.setCtl { s.ctl with fault := s.ctl.fault ||| panelBit p }

/-- Set a panel's NOTIFY bit (R174). -/
def State.setNotifyBit (s : State) (p : PanelId) : State := s.setCtl { s.ctl with notify := s.ctl.notify ||| panelBit p }

/-! ### Memory port requests (R156, R157) -/

/-- A request as transactions in ascending address order, each within one 64-byte block; `off` is the offset of the
transaction's bytes in the request. The first argument bounds the number of transactions. -/
def splitRequest (own : Nat → ReadOwner) : Nat → Word → Nat → Nat → List ReadTxn
  | 0, _, _, _ => []
  | fuel + 1, addr, off, left =>
    if left = 0 then []
    else
      let n := min left (64 - addr.toNat % 64)
      { owner := own off, addr := addr, len := n } ::
        splitRequest own fuel (addr + BitVec.ofNat 32 n) (off + n) (left - n)

/-- The transactions of a request of len bytes. -/
def requestTxns (own : Nat → ReadOwner) (addr : Word) (len : Nat) : List ReadTxn :=
  splitRequest own len addr 0 len

/-- A write taken by the port enters the write queue at its tail (R159). -/
def State.takeWrite (s : State) (w : WriteTxn) : State :=
  s.setPort { s.port with writeQ := s.port.writeQ ++ [w] }

/-- A ticket read or link poll taken by the port (R158). -/
def State.takeChainRead (s : State) (t : ReadTxn) : State :=
  s.setPort { s.port with chainQ := s.port.chainQ ++ [t] }

/-- A control read taken by the port (R157). -/
def State.takeControlRead (s : State) (kind : RecordKind) (addr : Word) : State :=
  s.setPort { s.port with ctlQ := s.port.ctlQ ++ requestTxns (.control kind) addr kind.size }

/-- The panel a write is for: the one whose ticket it writes (R159). -/
def WriteKind.panel? : WriteKind → Option PanelId
  | .taken p => some p
  | .status p _ _ _ => some p
  | .reply p => some p
  | .report => none

/-- The writes the port holds, queued or outstanding. -/
def Port.writes (q : Port) : List WriteTxn := q.writeQ ++ q.outWrites

/-- A write for the panel is in the write queue or outstanding (R159). -/
def Port.writesFor (q : Port) (p : PanelId) : Bool := q.writes.any fun w => w.kind.panel? == some p

/-- A status write for the panel's tickets is not yet answered (R37). -/
def Port.statusFor (q : Port) (p : PanelId) : Bool :=
  q.writes.any fun w => match w.kind with
    | .status p' _ _ _ => p' == p
    | _ => false

/-- A status write that the request in progress waits for is not yet answered. -/
def Port.statusOfRequest (q : Port) : Bool :=
  q.writes.any fun w => match w.kind with
    | .status _ _ _ r => r
    | _ => false

/-! ### Final status writes (R5, R74) -/

/-- The state, reason and detail of a final status. -/
structure Final where
  state : Status
  reason : Reason
  detail : Nat
  deriving DecidableEq, Repr

/-- A final status write of a ticket, issued to the port. -/
def State.writeStatus (s : State) (p : PanelId) (addr : Word) (notify : Bool) (f : Final) (ofRequest : Bool) : State :=
  s.takeWrite {
    kind := .status p f.state notify ofRequest
    addr := addr + 8
    data := statusBytes f.state f.reason f.detail }

/-- The entries of a window that an event ends, each with its final status, and the entries that stay. -/
def splitEnds (sel : Nat → Entry → Option Final) : Nat → List Entry → List (Entry × Final) × List Entry
  | _, [] => ([], [])
  | i, e :: rest =>
    let r := splitEnds sel (i + 1) rest
    match sel i e with
    | some f => ((e, f) :: r.1, r.2)
    | none => (r.1, e :: r.2)

/-- Issue the final status writes of one panel's ended tickets in chain order (R74). -/
def State.writeEnds (s : State) (p : PanelId) (ofRequest : Bool) (ends : List (Entry × Final)) : State :=
  ends.foldl (fun s x => s.writeStatus p x.1.ticket.addr x.1.ticket.notify x.2 ofRequest) s

/-- Give the selected tickets of a window their final status: their writes are issued in chain order, each ticket leaves
the window with its write, and the head progress is cleared when the head leaves (R24, R74). -/
def State.endTickets (s : State) (p : PanelId) (sel : Nat → Entry → Option Final) (ofRequest : Bool) : State :=
  let r := s.panel p
  let ends := splitEnds sel 0 r.window
  let headEnds := match r.window with
    | [] => false
    | e :: _ => (sel 0 e).isSome
  (s.setPanel p { r with window := ends.2, head := if headEnds then .clear else r.head }).writeEnds p ofRequest ends.1

/-- Give the head its final status. -/
def State.endHead (s : State) (p : PanelId) (f : Final) (ofRequest : Bool) : State :=
  s.endTickets p (fun i _ => if i = 0 then some f else none) ofRequest

/-! ### Lane lookups -/

/-- A lane transaction of the panel is in flight: from its grant to its completion, or to the deassertion of its select
when it is cut (R131, R139). -/
def State.inFlight (s : State) (p : PanelId) : Bool :=
  match (s.lane (s.panel p).desc.lane).tx with
  | some t => t.panel == p
  | none => false

/-- One of the two line buffers. -/
def Lane.buf (ln : Lane) (b : BufId) : LineBuf := if b = 0 then ln.bufA else ln.bufB

/-- Store one of the two line buffers. -/
def Lane.setBuf (ln : Lane) (b : BufId) (x : LineBuf) : Lane :=
  if b = 0 then { ln with bufA := x } else { ln with bufB := x }

/-- floor(C × r / 8) (R115). -/
def Lane.reserveSize (ln : Lane) : Nat := ln.capacity * ln.reserve / 8

/-- C − reserve size (R115). -/
def Lane.periodicCapacity (ln : Lane) : Nat := ln.capacity - ln.reserveSize

/-- The lane has been set up by SET_LANE (R116). -/
def Lane.isSetUp (ln : Lane) : Bool := 0 < ln.capacity

end Sys2Proof.Machine
end

