-- ==== Sys2Proof/Machine/Gates.lean ====
section
/-! DEFINITION. The gate table's breaks and withdrawals, and the halting faults that break gates (R26, R143 to R155). -/
namespace Sys2Proof.Machine

/-- A break of one entry: every listed GATE ticket is written GATE_BROKEN with the reason, in arrival order, the listed
panels' gate arrival fields are cleared and the entry becomes FREE (R149). `ofRequest` says which panels' writes the
request in progress waits for. -/
def State.breakGate (s : State) (g : GateId) (reason : Reason) (ofRequest : PanelId → Bool) : State :=
  let s' := (s.gate g).list.foldl (fun s q =>
    (s.endHead q { state := .gateBroken, reason := reason, detail := 0 } (ofRequest q)).modPanel q
      fun r => { r with gateAt := none }) s
  s'.setGate g .free

/-- Break every entry that an event breaks, in ascending order of gate number (R149). -/
def State.breakGates (s : State) (sel : Gate → Bool) (reason : Reason) (ofRequest : PanelId → Bool) : State :=
  allGates.foldl (fun s g => if sel (s.gate g) then s.breakGate g reason ofRequest else s) s

/-- A member is lost: every ARMED entry whose mask holds the panel breaks with MEMBER_LOST (R151). -/
def State.memberLost (s : State) (p : PanelId) (ofRequest : PanelId → Bool) : State :=
  s.breakGates (fun e => e.armed && hasPanel e.mask p) .memberLost ofRequest

/-- REWIND withdraws a panel's arrival: it leaves the list, and the entry becomes FREE if the list is left empty
(R43, R154). -/
def State.withdraw (s : State) (p : PanelId) : State :=
  match (s.panel p).gateAt with
  | none => s
  | some g =>
    let e := s.gate g
    let list := e.list.filter (· ≠ p)
    (s.setGate g (if list.isEmpty then .free else { e with list := list })).modPanel p
      fun r => { r with gateAt := none }

/-- The PARK of a panel that halts while PARKING completes at once with BAD_STATE (R26). -/
def State.endParkBadState (s : State) (p : PanelId) : State :=
  match s.ctl.op with
  | .parkWait q => if q = p then s.complete .badState else s
  | .parkForced q => if q = p then s.complete .badState else s
  | _ => s

/-- A halting fault is found for a panel: its FAULT bit is set, the code is kept unless the slot is UNBOUND, a READY or
PARKING panel becomes HALTED, and the gate table is told of the halt (R26). -/
def State.haltFault (s : State) (p : PanelId) (code : FaultCode) : State :=
  let r := s.panel p
  let s := s.setFaultBit p
  match r.state with
  | .unbound => s
  | .parked | .halted => s.setPanel p { r with fault := code }
  | .ready => (s.setPanel p { r with fault := code, state := .halted }).memberLost p fun _ => false
  | .parking =>
    ((s.setPanel p { r with fault := code, state := .halted, parkWait := 0 }).endParkBadState p).memberLost p
      fun _ => false

/-- ARMED entries whose timeout has run out (R150). -/
def Gate.timedOut (e : Gate) : Bool := e.armed && e.timeout == some 0

end Sys2Proof.Machine
end

