-- ==== Sys2Proof/Machine/Tear.lean ====
section
/-! DEFINITION. The tear tracker's channels (R95 to R111). -/
namespace Sys2Proof.Machine

/-- The channel enters UNTRACKED; the watch is armed at 0 or cleared as the cause gives (R101). -/
def Channel.enterUntracked (c : Channel) (armed : Bool) : Channel :=
  { c with
    state := .untracked
    budget := 0
    hold := 0
    skipCtr := 0
    estimate := 0
    base := false
    watch := 0
    armed := armed
    meeting := .none }

/-- The write window closes (R99, R103, R104). -/
def Channel.close (c : Channel) : Channel :=
  if c.state = .opened then { c with state := .closed, budget := 0, hold := 0 } else c

/-- RUN goes to 0: an open window closes, the estimate base is cleared, and no boundary comes for a TE event to meet (R103,
log 31). -/
def Channel.stop (c : Channel) : Channel := { c.close with base := false, meeting := .none }

/-- The frame estimate after a TE event: the periods since the last one, limited to 65535 (R98). -/
def Channel.newEstimate (c : Channel) (count : Word) : Nat :=
  if c.base then min (count - c.lastTe).toNat 65535 else c.estimate

/-- The boundary still to come ends the hold of an open window (R99, R100). -/
def Channel.lastHold (c : Channel) : Bool := c.state = .opened && c.hold ≤ 1

/-- What a TE event makes of the channel's meeting: it meets the boundary still to come, where that ends the hold (R100) or
would bring the watch, which the event sets to 0, to a TE watch value of 1 (R102); else it leaves a window standing unless it
reopens it (log 31). -/
def Channel.meetingAt (c : Channel) (d : Descriptor) (meets : Bool) : Meeting :=
  if meets && c.lastHold then .coming (c.skipCtr = 0)
  else if meets && d.teWatch = 1 then .watched
  else if c.skipCtr = 0 then .none
  else c.meeting

/-- A TE event is taken: estimate, watch, skip, in this order (R98). One that falls together with the boundary still to come
and ends the hold counts its estimate to that boundary, as it would come out after it (R100, log 31). -/
def Channel.teEvent (c : Channel) (d : Descriptor) (count : Word) (meets : Bool) : Channel :=
  let c := { c with
    estimate := c.newEstimate (if meets && c.lastHold then count + 1 else count)
    meeting := c.meetingAt d meets
    lastTe := count
    base := true
    watch := 0
    armed := 0 < d.teWatch }
  let c := if c.skipCtr = 0 then { c with state := .opened, budget := d.budget, hold := d.hold } else c
  { c with skipCtr := (c.skipCtr + 1) % c.skip }

/-- The edge setting is matched by a rising (new level high) or falling edge (R97). -/
def TeEdge.matches (e : TeEdge) (level : Bool) : Bool :=
  match e with
  | .rising => level
  | .falling => !level
  | .both => true

/-- A qualified edge of a slot is a TE event (R97). -/
def State.isTeEvent (s : State) (p : PanelId) (level : Bool) : Bool :=
  let r := s.panel p
  r.bound && r.desc.policy = .blank && r.display = .awake && s.part = .running && r.tear.edge.matches level

/-- A strip of the panel's image head is tear-gated (R105). -/
def Panel.gated (r : Panel) : Bool :=
  r.desc.policy = .blank && r.display = .awake && (r.tear.state ≠ .untracked || r.desc.fallback = .wait)

/-- The budget remaining that a gated strip is planned with (R86, R106). -/
def Channel.openBudget (c : Channel) : Nat := if c.state = .opened then c.budget else 0

/-- The conditioner takes a pin level as its qualified level, without an edge (R36, R109). -/
def Channel.takeLevel (c : Channel) (pin : Bool) : Channel := { c with qualified := pin, run := 0 }

/-- The conditioner's next sample would reach, or the pin has at once reached, a qualified edge (R96). -/
def Channel.edgeDue (c : Channel) (level : Bool) : Bool :=
  level ≠ c.qualified && (match c.filter.samples with
    | none => true
    | some n => n ≤ c.run + 1)

/-- One sample of a conditioner under a filter, short of a qualified edge (R96). -/
def Channel.sample (c : Channel) (level : Bool) : Channel :=
  match c.filter.samples with
  | none => c
  | some n =>
    if level = c.qualified then { c with run := 0 }
    else if c.run + 1 < n then { c with run := c.run + 1 }
    else c

/-- What a meeting becomes at the boundary: a window that the TE event reopened with a window hold of 1 stands open up to the
next boundary (R100, log 31). -/
def Channel.meetingAfter (c : Channel) : Meeting :=
  match c.meeting with
  | .coming true => if c.lastHold then .stands else .none
  | .coming false => .none
  | .none => .none
  | .watched => .none
  | .stands => .none

/-- The watch counts at this boundary: armed, for an AWAKE panel under policy BLANK (R102), and not set to 0 by a TE event
that falls together with the boundary and meets it (R100, R102, log 31). -/
def Channel.watchCounts (c : Channel) (d : Descriptor) (awake : Bool) : Bool :=
  c.armed && d.policy = .blank && awake && (match c.meeting with
    | .coming _ => false
    | .watched => false
    | .none => true
    | .stands => true)

/-- The channel at a period boundary: the hold of an open window counts down (R99), the watch counts up (R102), and a TE
event that fell together with the boundary is met (R100, R102). -/
def Channel.boundary (c : Channel) (d : Descriptor) (awake : Bool) : Channel :=
  { c with
    hold := if c.state = .opened then c.hold - 1 else c.hold
    watch := if c.watchCounts d awake then min (c.watch + 1) 255 else c.watch
    meeting := c.meetingAfter }

end Sys2Proof.Machine
end

