-- ==== Sys2Proof/Machine/Plan.lean ====
section
/-! DEFINITION. The strip planner: scroll mapping, pieces, sizing, unit bytes and pixel conversion (R78 to R94). -/
namespace Sys2Proof.Machine

/-! ### Rows -/

/-- The memory row of a logical row under scroll offset s (R78). -/
def Descriptor.memRow (d : Descriptor) (s y : Nat) : Nat :=
  if y < d.tfa ∨ d.tfa + d.vsa ≤ y then y else d.tfa + (y - d.tfa + s) % d.vsa

/-- A piece: first logical row, first memory row, row count (R80). -/
structure Piece where
  logical : Nat
  mem : Nat
  rows : Nat
  deriving DecidableEq, Repr

/-- The row bands of R80, each from its first logical row up to, and not including, its end. -/
def Descriptor.bands (d : Descriptor) (s : Nat) : List (Nat × Nat) :=
  [(0, d.tfa), (d.tfa, d.tfa + (d.vsa - s)), (d.tfa + (d.vsa - s), d.tfa + d.vsa), (d.tfa + d.vsa, d.height)]

/-- The pieces of rows y to y + h − 1: each band the rows reach gives one (R80). -/
def Descriptor.pieces (d : Descriptor) (s y h : Nat) : List Piece :=
  (d.bands s).filterMap fun b =>
    let lo := max y b.1
    let hi := min (y + h) b.2
    if lo < hi then some { logical := lo, mem := d.memRow s lo, rows := hi - lo } else none

/-- The rectangle is sound against the panel's geometry (R49). -/
def Descriptor.sound (d : Descriptor) (r : Rect) : Bool :=
  1 ≤ r.w && 1 ≤ r.h && r.x + r.w ≤ d.width && r.y + r.h ≤ d.height

/-- The rectangle of an image ticket. -/
def Body.rect? : Body → Option Rect
  | .draw r _ _ _ => some r
  | .fill r _ => some r
  | _ => none

/-- The earlier rectangle lies wholly inside the new one (R69). -/
def Rect.inside (old new : Rect) : Bool :=
  new.x ≤ old.x && new.y ≤ old.y && old.x + old.w ≤ new.x + new.w && old.y + old.h ≤ new.y + new.h

/-- The head ticket: the oldest of the window (R47). -/
def Panel.headTicket (r : Panel) : Option Ticket := r.window.head?.map (·.ticket)

/-- The offset the head's pieces are cut with: the planned offset once started, the panel's before (R79). -/
def Panel.planOffset (r : Panel) : Nat := if r.head.started then r.head.offset else r.scroll

/-- The pieces of the panel's image head, or none of them for another head. -/
def Panel.headPieces (r : Panel) : List Piece :=
  match r.headTicket.bind (·.body.rect?) with
  | some rect => r.desc.pieces r.planOffset rect.y rect.h
  | none => []

/-- The rows done in total for the head: the pieces already finished and the current piece (R24). -/
def Panel.rowsDone (r : Panel) : Nat :=
  match r.headTicket.bind (·.body.rect?) with
  | some _ => ((r.headPieces.take r.head.piece).map (·.rows)).sum + r.head.rows
  | none => 0

/-- The detail of the head's ABORTED status: rows sent for DRAW and FILL, a cut strip counted as sent (R5). -/
def Panel.abortDetail (r : Panel) : Nat :=
  match r.headTicket.bind (·.body.rect?) with
  | some _ => r.rowsDone + r.head.cut
  | none => 0

/-! ### Strips (R81 to R86) -/

/-- A planned strip of the head. -/
structure Plan where
  rows : Nat
  cost : Nat
  gated : Bool
  continued : Bool
  /-- First logical row, first memory row, and last memory row of the piece. -/
  logical : Nat
  mem : Nat
  memEnd : Nat
  deriving DecidableEq, Repr

/-- R83: continuation is planned. -/
def Panel.continues (r : Panel) (pf : Profile) : Bool := pf.continueCode.isSome && r.cont

/-- The overhead of the next strip (R86). -/
def Panel.overhead (r : Panel) (pf : Profile) : Nat := if r.continues pf then 1 else 3 + 4 * pf.k

/-- The limit of the next strip (R86). -/
def Panel.limit (r : Panel) : Nat := if r.gated then min r.credit r.tear.openBudget else r.credit

/-- The rows of a strip under a limit (R86). -/
def stripRows (left overhead rowCost limit : Nat) : Nat :=
  if limit < overhead then 0 else min left ((limit - overhead) / rowCost)

/-- The plan of the panel's image head under a limit (R86); none when the head is no image ticket or has no row left. -/
def Panel.planUnder (r : Panel) (pf : Profile) (limit : Nat) : Option Plan :=
  match r.headTicket.bind (·.body.rect?), r.headPieces[r.head.piece]? with
  | some rect, some pc =>
    let rowCost := rect.w * pf.fmt.bpp
    let rows := stripRows (pc.rows - r.head.rows) (r.overhead pf) rowCost limit
    some {
      rows := rows
      cost := r.overhead pf + rows * rowCost
      gated := r.gated
      continued := r.continues pf
      logical := pc.logical + r.head.rows
      mem := pc.mem + r.head.rows
      memEnd := pc.mem + pc.rows - 1 }
  | _, _ => none

/-- The plan the strip planner offers the arbiter (R86, R87). -/
def Panel.plan (r : Panel) (pf : Profile) : Option Plan := r.planUnder pf r.limit

/-! ### Unit bytes (R82, R83, R132) -/

/-- A coordinate of k bytes, most significant byte first (R82). -/
def coord (k n : Nat) : List LaneByte :=
  if k = 1 then [.data (BitVec.ofNat 8 n)] else [.data (BitVec.ofNat 8 (n / 256)), .data (BitVec.ofNat 8 n)]

/-- The unit bytes before a strip's pixels. -/
def Plan.units (pl : Plan) (pf : Profile) (rect : Rect) : List LaneByte :=
  match pl.continued, pf.continueCode with
  | true, some c => [.cmd c]
  | _, _ =>
    [.cmd pf.columnCode] ++ coord pf.k rect.x ++ coord pf.k (rect.x + rect.w - 1)
    ++ [.cmd pf.rowCode] ++ coord pf.k pl.mem ++ coord pf.k pl.memEnd
    ++ [.cmd pf.memoryCode]

/-! ### Pixels (R89 to R93) -/

/-- A component of n bits widened to 8: its own bits above, its top bits repeated below (R91). -/
def widen (n v : Nat) : Byte :=
  if n = 8 then BitVec.ofNat 8 v else BitVec.ofNat 8 (v * 2 ^ (8 - n) + v / 2 ^ (n - (8 - n)))

/-- The colour of a source pixel's bytes (R89, R91). -/
def srcPixel (f : SrcFmt) (bs : List Byte) : Rgb :=
  match f with
  | .s16 =>
    let v := nat16 bs 0
    { r := widen 5 (v / 2048), g := widen 6 (v / 32 % 64), b := widen 5 (v % 32) }
  | .s24 => { r := byteAt bs 0, g := byteAt bs 1, b := byteAt bs 2 }
  | .s32 => { r := byteAt bs 2, g := byteAt bs 1, b := byteAt bs 0 }

/-- The bytes of a colour in a panel format, in the order sent (R90, R91). -/
def Rgb.toPanel (c : Rgb) (f : PixFmt) : List Byte :=
  match f with
  | .p16 =>
    let v := c.r.toNat / 8 * 2048 + c.g.toNat / 4 * 32 + c.b.toNat / 8
    [BitVec.ofNat 8 (v / 256), BitVec.ofNat 8 v]
  | .p18 => [c.r &&& 0xFC, c.g &&& 0xFC, c.b &&& 0xFC]
  | .p24 => [c.r, c.g, c.b]

/-- The converted bytes of n pixels (R85, R91). -/
def convertPixels (src : SrcFmt) (dst : PixFmt) : Nat → List Byte → List Byte
  | 0, _ => []
  | n + 1, bs => (srcPixel src bs).toPanel dst ++ convertPixels src dst n (bs.drop src.bytes)

/-- A source row converted to the panel pixel format (R92). -/
def convertRow (d : DrawFeed) (bs : List Byte) : List Byte := convertPixels d.src d.dst d.width bs

/-- The address of row r of the strip: source + row × stride, wrapping at 32 bits (R92). -/
def DrawFeed.rowAddr (d : DrawFeed) (r : Nat) : Word :=
  d.source + BitVec.ofNat 32 ((d.firstRow + r) * d.stride)

/-- Bytes of one source row (R92). -/
def DrawFeed.rowLen (d : DrawFeed) : Nat := d.width * d.src.bytes

end Sys2Proof.Machine
end

