-- ==== Sys2Proof/Machine/Chain.lean ====
section
/-! DEFINITION. The chain fetcher's shared operations: polls, the end of an access, the cursor, the take and supersede
(R7 to R19, R68 to R70). -/
namespace Sys2Proof.Machine

/-- A link poll: access POLLING, and the 4-byte link word of the watched ticket is read (R14). A cursor that watches
nothing has no link to poll. -/
def State.issuePoll (s : State) (p : PanelId) : State :=
  match (s.panel p).cursor with
  | .nextKnown _ => s
  | .watch x =>
    (s.modPanel p fun r => { r with access := .polling }).takeChainRead { owner := .link p, addr := x, len := 4 }

/-- One event issues link polls for several panels; the order in which they are taken is free (log 5). -/
def State.issuePolls (s : State) (ps : List PanelId) : State :=
  (orderFree ps.length s.freeCount ps).foldl State.issuePoll (s.useFree (ps.length - 1))

/-- The cursor watches a ticket. -/
def Cursor.watching : Cursor → Bool
  | .watch _ => true
  | .nextKnown _ => false

/-- The panel's chain may begin an access: READY, unbind pending clear, access IDLE (R8, R15, R16). -/
def Panel.chainIdle (r : Panel) : Bool := r.active && r.access = .idle

/-- The poll that RESUME or a nudge asks for on a watching, idle chain: at once while RUNNING, else as the repoll mark
(R16, R17). -/
def State.pollOrMark (s : State) (p : PanelId) : State :=
  if s.part = .running then s.issuePoll p else s.modPanel p fun r => { r with repoll := true }

/-- An access has ended: a RESUME that came while it was under way now asks for its poll (R17). When R14's repoll has already
begun the next poll, that one serves both, and no further poll follows: the model's choice, log 11. -/
def State.accessEnded (s : State) (p : PanelId) : State :=
  let r := s.panel p
  let s := s.setPanel p { r with resumePoll := false }
  if r.resumePoll && r.chainIdle && r.cursor.watching then s.pollOrMark p else s

/-- The cursor past a ticket: its link when that is non-zero and a multiple of 64, else WATCH on the ticket (R11, R12). -/
def cursorPast (addr link : Word) : Cursor :=
  if alignedAddr 64 link then .nextKnown link else .watch addr

/-- A link that is neither 0 nor a multiple of 64 (R12, R14). -/
def badLink (link : Word) : Bool := link ≠ 0 && !alignedAddr 64 link

/-- Which earlier entries of a window a new image ticket supersedes (R68, R69); `old` is the window before the take. -/
def supersedes (d : Descriptor) (started : Bool) (old : List Entry) (new : Rect) (i : Nat) (e : Entry) : Option Final :=
  match e.ticket.body.rect? with
  | none => none
  | some rect =>
    if i < old.length && !(started && i = 0) && !e.ticket.keep && rect.inside new && d.sound rect && d.sound new &&
        (old.drop (i + 1)).all (·.ticket.body.isImage) then
      some { state := .superseded, reason := .none, detail := 0 }
    else none

/-- The take: the copy joins the window at its end, and an image ticket supersedes what it covers (R12, R68, R70). -/
def State.take (s : State) (p : PanelId) (t : Ticket) : State :=
  let r := s.panel p
  let s := s.setPanel p { r with window := r.window ++ [{ ticket := t, due := false }] }
  match t.body.rect? with
  | none => s
  | some new => s.endTickets p (supersedes r.desc r.head.started r.window new) false

/-- The fetch conditions of R8. -/
def State.mayFetch (s : State) (p : PanelId) : Bool :=
  let r := s.panel p
  s.part = .running && r.chainIdle && !r.cursor.watching && decide (r.window.length < 4)

end Sys2Proof.Machine
end

