-- ==== Sys2Proof/Machine/Heads.lean ====
section
/-! DEFINITION. What the panel table does with a head (R47), and a GATE head's arrival at the gate table (R145 to R148). -/
namespace Sys2Proof.Machine

/-- FAILED with a reason and detail 0. -/
def failedWith (reason : Reason) : Final := { state := .failed, reason := reason, detail := 0 }

/-- The check of a head when the panel table acts on it: the final status of one that fails (R49, R57, R61). -/
def headCheck (d : Descriptor) (pf : Profile) : Body → Option Final
  | .draw rect _ _ _ => if d.sound rect then none else some (failedWith .badRect)
  | .fill rect _ => if d.sound rect then none else some (failedWith .badRect)
  | .scroll s =>
    if d.vsa = 0 then some (failedWith .badScroll)
    else if pf.scrollCode.isNone then some (failedWith .noCode)
    else if d.vsa ≤ s then some (failedWith .badScroll)
    else none
  | .sleep => if pf.sleepCode.isNone then some (failedWith .noCode) else none
  | .wake => if pf.wakeCode.isNone then some (failedWith .noCode) else none
  | .send .. => none
  | .read .. => none
  | .fence => none
  | .gate .. => none

/-- What the panel table does with a head: end it, or hand it to the gate table. -/
inductive HeadAct where
  | final (f : Final)
  | arrive (g : GateId) (mask : Half) (timeout : Nat) (align : Bool)
  deriving DecidableEq, Repr

/-- The action on an unstarted head (R47); none for a head that waits as a lane item. -/
def Ticket.headAct (t : Ticket) (d : Descriptor) (pf : Profile) : Option HeadAct :=
  match t.body with
  | .fence => some (.final { state := .done, reason := .none, detail := 0 })
  | .gate g mask timeout => some (.arrive g mask timeout t.align)
  | b => (headCheck d pf b).map .final

/-- The action due on a panel's head: the panel is READY with the unbind pending flag clear, the part is RUNNING, and the
head is not started (R47). -/
def State.headAct (s : State) (p : PanelId) : Option HeadAct :=
  let r := s.panel p
  if s.part = .running && r.active && !r.head.started then
    r.headTicket.bind fun t => t.headAct r.desc (s.profileOf p)
  else none

/-- Some panel of the mask is UNBOUND or HALTED (R145 step 3). -/
def State.someLost (s : State) (mask : Half) : Bool :=
  allPanels.any fun q => hasPanel mask q && ((s.panel q).state = .unbound || (s.panel q).state = .halted)

/-- The list holds every panel of the mask (R147). -/
def covers (list : List PanelId) (mask : Half) : Bool := allPanels.all fun q => !hasPanel mask q || list.contains q

/-- ALIGN: the write windows of every member close (R104, R148). -/
def State.alignClose (s : State) (mask : Half) : State :=
  allPanels.foldl (fun s q => if hasPanel mask q then s.modPanel q fun r => { r with tear := r.tear.close } else s) s

/-- The release of an entry: windows closed under ALIGN, every listed GATE written DONE in arrival order, the entry FREE
(R148). -/
def State.release (s : State) (g : GateId) : State :=
  let e := s.gate g
  let s := if e.align then s.alignClose e.mask else s
  let s := e.list.foldl (fun s q =>
    (s.endHead q { state := .done, reason := .none, detail := 0 } false).modPanel q
      fun r => { r with gateAt := none }) s
  s.setGate g .free

/-- An arrival that passes the tests joins the entry, arming a FREE one with its own mask, timeout and ALIGN (R147). -/
def Gate.join (e : Gate) (p : PanelId) (mask : Half) (timeout : Nat) (align : Bool) : Gate :=
  if e.armed then { e with list := e.list ++ [p] }
  else {
    armed := true
    mask := mask
    list := [p]
    timeout := if timeout = 0 then none else some timeout
    align := align }

/-- The arrival of panel p's GATE head at entry g (R145 to R147). -/
def State.arrive (s : State) (p : PanelId) (g : GateId) (mask : Half) (timeout : Nat) (align : Bool) : State :=
  let e := s.gate g
  if !hasPanel mask p then s.endHead p (failedWith .badGate) false
  else if e.armed && e.mask ≠ mask then s.endHead p (failedWith .gateMismatch) false
  else if s.someLost mask then
    (s.breakGate g .memberLost fun _ => false).endHead p
      { state := .gateBroken, reason := .memberLost, detail := 0 } false
  else
    let e' := e.join p mask timeout align
    let s := (s.setGate g e').modPanel p fun r => { r with gateAt := some g, head := { r.head with started := true } }
    if covers e'.list e'.mask then s.release g else s

/-- Carry out the action on a panel's head. -/
def State.doHead (s : State) (p : PanelId) : HeadAct → State
  | .final f => s.endHead p f false
  | .arrive g mask timeout align => s.arrive p g mask timeout align

/-- The panels whose heads may be acted on now. -/
def State.actors (s : State) : List PanelId := allPanels.filter fun p => (s.headAct p).isSome

/-- The panel table acts on heads until none is left to act on; which of several panels is first is free (R47, log 5).
Each action ends a ticket or starts a GATE, so 128 are enough for sixteen windows of four. -/
def actHeads : Nat → State → State
  | 0, s => s
  | fuel + 1, s =>
    match pickFree s.freeCount s.actors with
    | none => s
    | some (p, rest) =>
      match s.headAct p with
      | none => s
      | some a => actHeads fuel ((s.useFree (min rest.length 1)).doHead p a)

end Sys2Proof.Machine
end

