-- ==== Sys2Proof/Machine/Link.lean ====
section
/-! DEFINITION. The lane units: shifting, line buffers and pixel fetch, aborts and the report of a deassertion
(R129 to R142). -/
namespace Sys2Proof.Machine

/-! ### The lane clock's edges (R130) -/

/-- An edge of LCLK. -/
inductive ClockEdge where
  | rising | falling
  deriving DecidableEq, Repr

/-- LCLK's idle level under a link mode (R130). -/
def idleLevel (mode : Fin 4) : Bool := 2 ≤ mode.val

/-- The edge on which the panel samples LDO and the part samples LDI under a link mode (R130). -/
def captureEdge : Fin 4 → ClockEdge
  | 0 => .rising | 1 => .falling | 2 => .falling | 3 => .rising

/-- The edge on which LDO and LDC change under a link mode (R130). -/
def changeEdge : Fin 4 → ClockEdge
  | 0 => .falling | 1 => .rising | 2 => .rising | 3 => .falling

/-- Edge i of a byte time's eight pulses, 0 to 15: the first leaves the idle level (R129, R130). -/
def edgeAt (mode : Fin 4) (i : Nat) : ClockEdge := if (i % 2 == 0) == idleLevel mode then .falling else .rising

/-- The eight capture edges of a byte time, by number. -/
def captureEdges (mode : Fin 4) : List Nat := (List.range 16).filter fun i => edgeAt mode i = captureEdge mode

/-- LCLK after the first i edges of a byte time (R129). -/
def clockLevel (mode : Fin 4) (i : Nat) : Bool := if i % 2 = 0 then idleLevel mode else !idleLevel mode

/-- The number of the bit that stands on LDO after the first i edges of a byte time, i at most 15: the first bit stands there
before the first capture edge, and each change edge after a capture edge brings the next one (R130, R135). -/
def shownBit (mode : Fin 4) (i : Nat) : Nat :=
  ((List.range i).filter fun e =>
    edgeAt mode e = changeEdge mode && (List.range e).any fun c => edgeAt mode c = captureEdge mode).length

/-! ### Bytes on the wire -/

/-- The byte with its bits in the other order. -/
def revByte (b : Byte) : Byte :=
  BitVec.ofNat 8 ([0, 1, 2, 3, 4, 5, 6, 7].foldl
    (fun acc i => acc + if b.getLsbD i then 2 ^ (7 - i) else 0) 0)

/-- Bit n of a byte in the order of a lane, n from 0 to 7 (R130). -/
def wireBit (lsbFirst : Bool) (b : Byte) (n : Nat) : Bool := if lsbFirst then b.getLsbD n else b.getLsbD (7 - n)

/-- The first bit of a byte on the lane under a bit order (R130). -/
def firstBit (lsbFirst : Bool) (b : Byte) : Bool := wireBit lsbFirst b 0

/-- The last bit of a byte on the lane under a bit order (R130). -/
def lastBit (lsbFirst : Bool) (b : Byte) : Bool := wireBit lsbFirst b 7

/-- The levels of LDI on the capture edges of a byte time, the first in bit 7, from its levels on all sixteen edges, the
first in bit 15 (R130, R133). -/
def sampleBits (mode : Fin 4) (ldi : Half) : Byte :=
  BitVec.ofNat 8 ((captureEdges mode).foldl (fun acc i => 2 * acc + if ldi.getLsbD (15 - i) then 1 else 0) 0)

/-- The byte assembled from the levels sampled on LDI, the first of them in bit 7 (R130, R133). -/
def assembleBits (lsbFirst : Bool) (bits : Byte) : Byte := if lsbFirst then revByte bits else bits

/-- LCLK after the first i edges of the byte time in progress; with no byte in the shift stage it is held (R129, R138). -/
def Lane.lclkAt (ln : Lane) (i : Nat) : Bool :=
  match ln.shift, ln.tx with
  | some _, some t => clockLevel t.mode i
  | _, _ => ln.lclk

/-- LDO after the first i edges of the byte time in progress; with no byte in the shift stage it is held (R129, R130,
R138). LDC keeps its level for the whole byte time (R135). -/
def Lane.ldoAt (ln : Lane) (i : Nat) : Ldo :=
  match ln.shift, ln.tx with
  | some (.cmd v), some t => .driven (wireBit t.lsbFirst v (shownBit t.mode i))
  | some (.data v), some t => .driven (wireBit t.lsbFirst v (shownBit t.mode i))
  | _, _ => ln.ldo

/-- LDC and LDO as a byte enters the shift stage; LDO is released for a byte clocked in (R129, R133, R135). -/
def Lane.enterShift (ln : Lane) (lsbFirst : Bool) (b : LaneByte) : Lane :=
  match b with
  | .cmd v => { ln with shift := some b, ldc := false, ldo := .driven (firstBit lsbFirst v) }
  | .data v => { ln with shift := some b, ldc := true, ldo := .driven (firstBit lsbFirst v) }
  | .clockIn => { ln with shift := some b, ldc := true, ldo := .released }

/-! ### Where the next byte comes from (R135) -/

/-- The line buffer that holds a row wholly. -/
def Lane.holding (ln : Lane) (row : Nat) : Option (BufId × List Byte) :=
  match ln.bufA, ln.bufB with
  | .held r bs, other =>
    if r = row then some (0, bs)
    else match other with
      | .held r' bs' => if r' = row then some (1, bs') else none
      | _ => none
  | _, .held r bs => if r = row then some (1, bs) else none
  | _, _ => none

/-- The next byte of a transaction: a byte with the lane it leaves, a row that is late, or no further byte. -/
inductive Supply where
  | byte (b : LaneByte) (ln : Lane)
  | late
  | exhausted
  deriving DecidableEq, Repr

/-- The next byte of the transaction in flight, not yet in the byte stage (R135). The buffer of a row becomes free when the
row's last byte leaves it (R136). -/
def Lane.supply (ln : Lane) : Supply :=
  match ln.tx with
  | none => .exhausted
  | some t =>
    match t.units, t.feed with
    | b :: rest, _ => .byte b { ln with tx := some { t with units := rest } }
    | [], .none => .exhausted
    | [], .fill pixel left =>
      if left = 0 then .exhausted
      else .byte (.data (byteAt pixel ((pixel.length - left % pixel.length) % pixel.length)))
        { ln with tx := some { t with feed := .fill pixel (left - 1) } }
    | [], .draw d =>
      if d.rows ≤ d.cur then .exhausted
      else match ln.holding d.cur with
        | none => .late
        | some (b, bytes) =>
          if d.pos + 1 < bytes.length then
            .byte (.data (byteAt bytes d.pos)) { ln with tx := some { t with feed := .draw { d with pos := d.pos + 1 } } }
          else
            .byte (.data (byteAt bytes d.pos))
              ({ ln with tx := some { t with feed := .draw { d with cur := d.cur + 1, pos := 0 } } }.setBuf b .free)

/-- The byte stage takes the next byte of the transaction, if it is empty and there is one (R135). -/
def Lane.refill (ln : Lane) : Lane :=
  match ln.stage with
  | some _ => ln
  | none =>
    match ln.supply with
    | .byte b ln' => { ln' with stage := some b }
    | .late => ln
    | .exhausted => ln

/-- The byte in the byte stage moves into the shift stage, and the byte stage takes the next byte (R135). -/
def Lane.advance (ln : Lane) (lsbFirst : Bool) (b : LaneByte) : Lane :=
  ({ ln with stage := none }.enterShift lsbFirst b).refill

/-- The bit order of the transaction in flight. -/
def Lane.order (ln : Lane) : Bool := (ln.tx.map (·.lsbFirst)).getD false

/-- A byte time clocked in is dropped while dummy bytes are due, and otherwise joins the reply (R133). -/
def Lane.capture (ln : Lane) (ldi : Half) : Lane :=
  match ln.shift, ln.tx with
  | some .clockIn, some t =>
    if 0 < t.dummy then { ln with tx := some { t with dummy := t.dummy - 1 } }
    else { ln with reply := ln.reply ++ [assembleBits t.lsbFirst (sampleBits t.mode ldi)] }
  | _, _ => ln

/-- LDO after a byte has ended and none follows: the level of its last bit (R138). -/
def Lane.restLdo (ln : Lane) : Ldo :=
  match ln.shift with
  | some (.cmd v) => .driven (lastBit ln.order v)
  | some (.data v) => .driven (lastBit ln.order v)
  | _ => ln.ldo

/-- The end of a byte time in SHIFTING: the next byte moves in, the lane stalls on a late row, or it enters ENDING with the
select deasserted (R134, R135, R138). -/
def Lane.byteEnd (ln : Lane) (ldi : Half) : Lane :=
  let ln := (ln.capture ldi).refill
  match ln.stage with
  | some b => ln.advance ln.order b
  | none =>
    match ln.supply with
    | .exhausted => { ln with link := .ending, shift := none, sel := none, ldo := .driven false, ldc := true }
    | .late => { ln with link := .stalled, ldo := ln.restLdo, shift := none }
    | .byte _ _ => ln

/-- A row has become whole: a stalled lane moves its first byte in and shifts on, a shifting lane keeps it for the byte
stage (R134, R138). -/
def Lane.rowReady (ln : Lane) : Lane :=
  match ln.link with
  | .stalled =>
    let ln := ln.refill
    match ln.stage with
    | some b => { ln with link := .shifting }.advance ln.order b
    | none => ln
  | .shifting => ln.refill
  | _ => ln

/-! ### Pixel fetch (R136) -/

/-- Whether the transaction in flight may still request rows: no abort has been ordered (R139). -/
def Lane.mayRequest (ln : Lane) : Bool := ln.link = .shifting || ln.link = .stalled

/-- Request the strip's next row into one buffer, if that buffer is free and a row remains. -/
def State.requestRow (s : State) (l : LaneId) (b : BufId) : State :=
  let ln := s.lane l
  match ln.tx with
  | none => s
  | some t =>
    match t.feed with
    | .draw d =>
      if ln.mayRequest && d.next < d.rows && ln.buf b = .free then
        let txns := requestTxns (ReadOwner.pixel l b) (d.rowAddr d.next) d.rowLen
        (s.setLane l ({ ln with tx := some { t with feed := .draw { d with next := d.next + 1 } } }.setBuf b
            (.fetching d.next d.rowLen [] false))).setPort
          { s.port with pixQ := s.port.pixQ.set l (s.port.pixQ[l] ++ txns) }
      else s
    | _ => s

/-- Request rows into the free buffers, in row order (R136). -/
def State.requestRows (s : State) (l : LaneId) : State := (s.requestRow l 0).requestRow l 1

/-- A sent transaction of the fetch into a buffer is not yet answered. -/
def Port.awaits (q : Port) (l : LaneId) (b : BufId) : Bool :=
  q.outReads.any fun t => match t.owner with
    | .pixel l' b' _ => l' == l && b' == b
    | _ => false

/-- A taken transaction of the fetch into a buffer is not yet sent. -/
def Port.unsent (q : Port) (l : LaneId) (b : BufId) : Bool :=
  (q.pixQ[l]).any fun t => match t.owner with
    | .pixel _ b' _ => b' == b
    | _ => false

/-- A buffer when the strip is cut: free, or reserved while a sent transaction of its fetch awaits its answer (R136). -/
def LineBuf.cut (x : LineBuf) (awaits : Bool) : LineBuf :=
  match x with
  | .fetching .. => if awaits then .reserved else .free
  | .reserved => if awaits then .reserved else .free
  | .held .. => .free
  | .free => .free

/-! ### Aborts (R139) -/

/-- The rows a transaction carries, as a cut counts them (R5). -/
def Work.rows : Work → Nat
  | .strip n => n
  | _ => 0

/-- The PARK whose forced park has cut the transaction goes on to wait for its status write (R41). One whose transaction is
cut by an abort ordered before it, no forced park of its own having begun, completes with OK (log 15). -/
def State.parkWriteWait (s : State) (p : PanelId) : State :=
  match s.ctl.op with
  | .parkForced q => if q = p then s.setOp (.parkWrite p) else s
  | .parkWait q => if q = p then s.complete .ok else s
  | _ => s

/-- The request in progress is the PARK of p with its forced park begun (R41). -/
def State.forcing (s : State) (p : PanelId) : Bool :=
  match s.ctl.op with
  | .parkForced q => q = p
  | _ => false

/-- A PARKING panel whose transaction has ended becomes PARKED (R40, R41). -/
def Panel.endParking (r : Panel) : Panel :=
  if r.state = .parking then { r with state := .parked, parkWait := 0 } else r

/-- The panel table at the report of a deasserted select: the continuation flag is invalid, and the requester of the cut
gives the head its final status, or remembers the cut rows until it does (R37, R41, R43, R54, R84). While RESETTING no
status is written (R46). -/
def State.reportCut (s : State) (p : PanelId) (cause : AbortCause) (work : Work) : State :=
  let s := s.modPanel p fun r => { r with cont := false }
  if s.part = .resetting then s
  else match cause with
    | .softReset => s
    | .unbind | .rewind => s.modPanel p fun r => { r with head := { r.head with cut := work.rows } }
    | .forcedPark =>
      let s := s.modPanel p fun r => { r with head := { r.head with cut := work.rows } }
      let f : Final := { state := .aborted, reason := .parkForced, detail := (s.panel p).abortDetail }
      ((s.endHead p f (s.forcing p)).modPanel p Panel.endParking).parkWriteWait p
    | .pixelError =>
      let f : Final := { state := .failed, reason := .pixelError, detail := (s.panel p).rowsDone }
      ((s.endHead p f false).modPanel p Panel.endParking).parkWriteWait p

/-- The select of a cut transaction is deasserted: the lane takes its idle levels, its buffers are freed or stay reserved,
a partial reply is discarded, and the deassertion is reported (R139). -/
def State.deassert (s : State) (l : LaneId) : State :=
  let ln := s.lane l
  let s := s.setLane l { ln with
    link := .gapAfterAbort
    tx := none
    cause := none
    shift := none
    stage := none
    bufA := ln.bufA.cut (s.port.awaits l 0)
    bufB := ln.bufB.cut (s.port.awaits l 1)
    reply := []
    sel := none
    ldo := .driven false
    ldc := true }
  match ln.tx, ln.cause with
  | some t, some c => s.reportCut t.panel c t.work
  | _, _ => s

/-- The port drops a lane's pixel fetch transactions that are taken and not sent (R158). -/
def State.dropPixels (s : State) (l : LaneId) : State :=
  s.setPort { s.port with pixQ := s.port.pixQ.set l [] }

/-- An abort that cuts at once: the select is deasserted, if it is not high already, and reported (R139). -/
def State.cutNow (s : State) (l : LaneId) (cause : AbortCause) : State :=
  ((s.setLane l { s.lane l with cause := some cause }).dropPixels l).deassert l

/-- An abort ordered to a lane unit: in SHIFTING the byte is finished first, in STALLED the select is deasserted at once, in
the other states it finds nothing to cut, comes too late, or stands behind the first (R134, R139). -/
def State.abort (s : State) (l : LaneId) (cause : AbortCause) : State :=
  let ln := s.lane l
  match ln.link with
  | .shifting => (s.setLane l { ln with link := .aborting, stage := none, cause := some cause }).dropPixels l
  | .stalled => s.cutNow l cause
  | .idle | .aborting | .ending | .gapAfterAbort => s

/-- Abort the panel's transaction in flight, if it has one. -/
def State.abortPanel (s : State) (p : PanelId) (cause : AbortCause) : State :=
  if s.inFlight p then s.abort (s.panel p).desc.lane cause else s

/-- A pixel error for the strip in flight (R54); one that finds the abort ordered by a forced park takes its place, one
that finds it ordered by UNBIND or REWIND leaves the cut as ordered (R55). The strip's feed is dropped with it, so that a
further ERROR of the same strip has no effect (R54, R137). -/
def State.pixelError (s : State) (l : LaneId) : State :=
  let ln := s.lane l
  match ln.tx with
  | none => s
  | some t =>
    match t.feed with
    | .none | .fill .. => s
    | .draw _ =>
      let s := (s.setLane l { ln with tx := some { t with feed := .none } }).haltFault t.panel .pixelError
      match ln.cause with
      | none => s.abort l .pixelError
      | some .forcedPark => s.modLane l fun ln => { ln with cause := some .pixelError }
      | some .unbind | some .rewind | some .pixelError | some .softReset => s

/-! ### A grant on the lane (R125, R130, R134, R135) -/

/-- The lane unit receives a transaction: mode applied, select asserted, first byte in the shift stage, second in the byte
stage if there is one; a DRAW's first rows are requested (R134, R135, R136). -/
def State.startTx (s : State) (l : LaneId) (t : Tx) : State :=
  let ln := { s.lane l with
    link := .shifting
    tx := some t
    cause := none
    shift := none
    stage := none
    reply := []
    sel := some t.select
    lclk := idleLevel t.mode }
  let ln := ln.refill
  let ln := match ln.stage with
    | some b => ln.advance t.lsbFirst b
    | none => ln
  (s.setLane l ln).requestRows l

end Sys2Proof.Machine
end

