-- ==== Sys2Proof/Machine/Sched.lean ====
section
/-! DEFINITION. The lane scheduler: command costs, eligibility, the arbiter's pick, and the grant (R56, R117 to R125). -/
namespace Sys2Proof.Machine

/-- The cost of a command item in lane bytes (R56); none for the other kinds. -/
def commandCost (pf : Profile) : Body → Option Nat
  | .scroll _ => some (1 + pf.k)
  | .send _ params => some (1 + params.length)
  | .read _ count => some (1 + pf.readDummy + count)
  | .sleep => some 1
  | .wake => some 1
  | .draw .. => none
  | .fill .. => none
  | .fence => none
  | .gate .. => none

/-- The display sub-state is one of the two settling ones (R64, R65). -/
def Display.settling : Display → Bool
  | .settlingToAwake => true
  | .settlingToAsleep => true
  | .awake => false
  | .asleep => false

/-- The head is a lane item that waits and that the accounts allow (R122 conditions 5, 7 and 8). -/
def State.headReady (s : State) (p : PanelId) : Bool :=
  let r := s.panel p
  let pf := s.profileOf p
  match r.headTicket with
  | none => false
  | some t =>
    (headCheck r.desc pf t.body).isNone &&
    (match commandCost pf t.body with
     | some cost => !r.head.started && (cost ≤ (s.lane r.desc.lane).reserveCredit || cost ≤ r.credit)
     | none => match r.plan pf with
       | some pl => 1 ≤ pl.rows
       | none => false)

/-- A panel is eligible for its lane (R122). -/
def State.eligible (s : State) (p : PanelId) : Bool :=
  let r := s.panel p
  s.part = .running && !s.pins.throttle && (s.lane r.desc.lane).link = .idle && r.active && !r.display.settling &&
    s.headReady p

/-- The eligible panels of a lane. -/
def State.candidates (s : State) (l : LaneId) : List PanelId :=
  allPanels.filter fun p => (s.panel p).desc.lane = l && s.eligible p

/-- The selects in round-robin order after the last-granted one (R124). -/
def selectsAfter (last : Select) : List Select := [last + 1, last + 2, last + 3, last]

/-- The winner of a decision: class 1 before class 0, then round robin by select (R124). -/
def State.winner (s : State) (l : LaneId) : Option PanelId :=
  let cs := s.candidates l
  let top := cs.filter fun p => (s.panel p).desc.priority = 1
  let cls := if top.isEmpty then cs else top
  (selectsAfter (s.lane l).lastSelect).findSome? fun q => cls.find? fun p => (s.panel p).desc.select = q

/-- The transaction's fields that come from the winner's descriptor copy and profile (R130). -/
def State.baseTx (s : State) (p : PanelId) : Tx where
  panel := p
  select := (s.panel p).desc.select
  mode := (s.profileOf p).linkMode
  lsbFirst := (s.profileOf p).lsbFirst
  rateCode := (s.lane (s.panel p).desc.lane).rateCode
  work := .send
  units := []
  feed := .none
  dummy := 0

/-- The transaction of a command item (R58 to R63, R132). -/
def Tx.command (t : Tx) (d : Descriptor) (pf : Profile) : Body → Tx
  | .scroll o =>
    { t with work := .scroll o, units := .cmd (pf.scrollCode.getD 0) :: coord pf.k (d.tfa + o) }
  | .send code params => { t with work := .send, units := .cmd code :: params.map .data }
  | .read code count =>
    { t with
      work := .read
      units := .cmd code :: List.replicate (pf.readDummy + count) .clockIn
      dummy := pf.readDummy }
  | .sleep => { t with work := .sleep, units := [.cmd (pf.sleepCode.getD 0)] }
  | .wake => { t with work := .wake, units := [.cmd (pf.wakeCode.getD 0)] }
  | .draw .. => t
  | .fill .. => t
  | .fence => t
  | .gate .. => t

/-- The transaction of a strip (R81 to R83, R92, R93). -/
def Tx.strip (t : Tx) (pf : Profile) (pl : Plan) : Body → Tx
  | .draw rect source stride fmt =>
    { t with
      work := .strip pl.rows
      units := pl.units pf rect
      feed := .draw {
        source := source
        stride := stride
        src := fmt
        dst := pf.fmt
        width := rect.w
        firstRow := pl.logical - rect.y
        rows := pl.rows
        next := 0
        cur := 0
        pos := 0 } }
  | .fill rect colour =>
    { t with
      work := .strip pl.rows
      units := pl.units pf rect
      feed := .fill (colour.toPanel pf.fmt) (pl.rows * (rect.w * pf.fmt.bpp)) }
  | .scroll _ => t
  | .send .. => t
  | .read .. => t
  | .sleep => t
  | .wake => t
  | .fence => t
  | .gate .. => t

/-- The head's progress at the grant of a strip: at the first strip the started flag is set, the planned offset captured
and the piece index and rows done set to 0 (R48, R50). -/
def Panel.startStrip (r : Panel) : Panel :=
  if r.head.started then r
  else { r with head := { started := true, piece := 0, rows := 0, offset := r.scroll, cut := 0 } }

/-- The head's progress at the grant of a command item: started; the continuation flag is invalid (R48, R56, R84). -/
def Panel.startCommand (r : Panel) : Panel := { r with cont := false, head := { r.head with started := true } }

/-- A strip's debits: the credit, and the budget when the strip is gated (R87, R107, R119). -/
def Panel.debitStrip (r : Panel) (pl : Plan) : Panel :=
  { r with
    credit := r.credit - pl.cost
    tear := if pl.gated then { r.tear with budget := r.tear.budget - pl.cost } else r.tear }

/-- A command item is charged whole to the reserve credit when that suffices, else to the panel's credit (R121). -/
def State.chargeCommand (s : State) (p : PanelId) (cost : Nat) : State :=
  let l := (s.panel p).desc.lane
  if cost ≤ (s.lane l).reserveCredit then
    s.modLane l fun ln => { ln with reserveCredit := ln.reserveCredit - cost }
  else s.modPanel p fun r => { r with credit := r.credit - cost }

/-- The grant of lane l to panel p: the last-granted select, the debits, the started flag, the transaction (R124, R125). -/
def State.grant (s : State) (l : LaneId) (p : PanelId) : State :=
  let r := s.panel p
  let pf := s.profileOf p
  match r.headTicket with
  | none => s
  | some t =>
    let base := s.baseTx p
    let s := s.modLane l fun ln => { ln with lastSelect := r.desc.select }
    match commandCost pf t.body with
    | some cost =>
      ((s.chargeCommand p cost).modPanel p Panel.startCommand).startTx l
        (base.command r.desc pf t.body)
    | none =>
      match r.plan pf with
      | none => s
      | some pl =>
        (s.modPanel p fun r => r.startStrip.debitStrip pl).startTx l (base.strip pf pl t.body)

end Sys2Proof.Machine
end

