-- ==== Sys2Proof/Machine/Tolerance.lean ====
section
/-! DEFINITION. The tolerance reporter: predicted idle time, level and messages (R162 to R167). -/
namespace Sys2Proof.Machine

/-- A transaction is outstanding, or a request is taken and not yet sent (R163 step 1). -/
def Port.busy (q : Port) : Bool :=
  !q.chainQ.isEmpty || !q.ctlQ.isEmpty || !q.writeQ.isEmpty || !q.outReads.isEmpty || !q.outWrites.isEmpty ||
    allLanes.any fun l => !(q.pixQ[l]).isEmpty

/-- A lane works from a grant to the end of the idle gap that follows (R140, R163). -/
def State.lanesBusy (s : State) : Bool := allLanes.any fun l => (s.lane l).link ≠ .idle

/-- The boundaries to a panel's next due boundary: the least n from 1 to I (R163). -/
def dueTerm (count : Word) (p : PanelId) (interval : Nat) : Nat :=
  (p.val % interval + interval - count.toNat % interval - 1) % interval + 1

/-- The tear term of a panel whose head waits only for a write window: the three conditions R163 lists, and no other. That
they count alone, whatever THROTTLE is and even for an OPEN window, where a panel that THROTTLE holds back does not wait only
for a window, is the model's choice, log 34. -/
def State.tearTerm (s : State) (p : PanelId) : Option Nat :=
  let r := s.panel p
  let pf := s.profileOf p
  match r.planUnder pf (min r.credit r.desc.budget) with
  | some pl =>
    if r.gated && r.tear.estimate ≠ 0 && 1 ≤ pl.rows then
      some (r.tear.lastTe + BitVec.ofNat 32 r.tear.estimate - s.timer.count).toInt.toNat
    else none
  | none => none

/-- The term of one panel: the due term, or the tear term when that is less (R163). -/
def State.idleTerm (s : State) (p : PanelId) : Nat :=
  let due := dueTerm s.timer.count p (s.panel p).desc.interval
  match s.tearTerm p with
  | some t => min due t
  | none => due

/-- The predicted idle time D (R163). -/
def State.predictedIdle (s : State) : Nat :=
  if s.port.busy || s.lanesBusy || allPanels.any s.eligible then 0
  else if s.part ≠ .running || !(allPanels.any fun p => (s.panel p).state = .ready) then 65535
  else (allPanels.filter fun p => (s.panel p).active).foldl (fun d p => min d (s.idleTerm p)) 65535

/-- The highest tier whose minimum is at most D, or ACTIVE (R164). -/
def TolRecord.levelOf (t : TolRecord) (d : Nat) : TolLevel :=
  if t.highMin ≤ d then .high else if t.mediumMin ≤ d then .medium else if t.lowMin ≤ d then .low else .active

/-- The order of the levels (R164). -/
def TolLevel.rank : TolLevel → Nat
  | .active => 0 | .low => 1 | .medium => 2 | .high => 3

/-- The current level after a recompute, as the policy gives (R164). -/
def TolLevel.follow (cur comp : TolLevel) (policy : TolPolicy) : TolLevel :=
  if comp.rank < cur.rank then (match policy with | .stepped => comp | .direct => .active) else comp

/-- The value of a level under a record (R165). -/
def TolRecord.valueOf (t : TolRecord) : TolLevel → Half
  | .active => t.activeValue
  | .low => t.lowValue
  | .medium => t.mediumValue
  | .high => t.highValue

/-- The value a message carries: min(level value, limit) (R165). -/
def TolRecord.message (t : TolRecord) (l : TolLevel) : Half :=
  if t.limit < t.valueOf l then t.limit else t.valueOf l

/-- A message goes out at once, or into the pending slot behind the one in flight (R165). -/
def Tolerance.send (t : Tolerance) (v : Half) : Tolerance :=
  match t.inFlight with
  | none => { t with inFlight := some v }
  | some _ => { t with slot := some v }

/-- A message of the current level's value, if TOL_ENABLE is 1 (R165, R166). -/
def State.sendLevel (s : State) : State :=
  if s.ctl.tolEnable then s.setTol (s.tol.send (s.tol.record.message s.tol.level)) else s

/-- The current level a recompute gives: ACTIVE while RESETTING or with no record loaded (R164). -/
def State.newLevel (s : State) : TolLevel :=
  if s.part = .resetting || !s.tol.loaded then .active
  else s.tol.level.follow (s.tol.record.levelOf s.predictedIdle) s.tol.record.policy

/-- The recompute at an event that changes an input of R163: a change of level sends a message (R164). -/
def State.recompute (s : State) : State :=
  let l := s.newLevel
  if l = s.tol.level then s else (s.setTol { s.tol with level := l }).sendLevel

/-- TOL_ENABLE takes a value (R166). -/
def State.setTolEnable (s : State) (en : Bool) : State :=
  if en = s.ctl.tolEnable then s
  else
    let s := s.setCtl { s.ctl with tolEnable := en }
    if en then s.sendLevel else s.setTol { s.tol with slot := none }

/-- TOL_DATA: the message in flight; its level while TOL_VALID is low is a free value (log 24). -/
def State.tolData (s : State) : Half := s.tol.inFlight.getD (Config.idleTolData s.freeCount)

/-- TOL_VALID (R165). -/
def State.tolValid (s : State) : Bool := s.tol.inFlight.isSome

end Sys2Proof.Machine
end

