-- ==== Sys2Proof/Machine/Progress.lean ====
section
/-! DEFINITION. How a control request that waits goes on (R37, R38, R43, R152), and what closes every event: the waiting
request, the heads, the tolerance recompute. -/
namespace Sys2Proof.Machine

/-! ### UNBIND (R37, R38) -/

/-- UNBIND's status writes: a started head is ABORTED, every other ticket CANCELLED (R38). -/
def unbindFinal (r : Panel) (i : Nat) : Final :=
  if i = 0 && r.head.started then { state := .aborted, reason := .unbind, detail := r.abortDetail }
  else { state := .cancelled, reason := .unbind, detail := 0 }

/-- The waits of UNBIND have ended: the panel is UNBOUND, its gates break, its load leaves the lane, and the tickets still
in its window get their final status (R37). -/
def State.unbindProceed (s : State) (p : PanelId) : State :=
  let s := s.modPanel p fun r => { r with state := .unbound }
  let s := s.memberLost p fun q => q = p
  let r := s.panel p
  let s := s.modLane r.desc.lane fun ln => { ln with committed := ln.committed - r.desc.load }
  (s.endTickets p (fun i _ => some (unbindFinal r i)) true).setOp (.unbindWrites p)

/-- The result of a request whose writes are answered (R38, R43, R152). -/
def State.writesResult (s : State) : Result := if s.ctl.busErr then .busError else .ok

/-- UNBIND completes when every status write for the panel's tickets is answered: the slot takes its pin reset values
(R37, R45, R111). -/
def State.unbindFinish (s : State) (p : PanelId) : State :=
  if s.port.statusFor p then s else (s.setPanel p (.reset (s.tePin p))).complete s.writesResult

/-! ### REWIND (R43) -/

/-- REWIND's status writes (R43 step 3). -/
def rewindFinal (r : Panel) (i : Nat) : Final :=
  if i = 0 && r.head.started then { state := .aborted, reason := .rewind, detail := r.abortDetail }
  else { state := .cancelled, reason := .rewind, detail := 0 }

/-- The waits of REWIND have ended: the arrival is withdrawn, the tickets get their final status, and the record is set to
the new chain (R43 steps 2 to 4). -/
def State.rewindProceed (s : State) (p : PanelId) (addr : Word) : State :=
  let s := s.withdraw p
  let r := s.panel p
  let s := s.endTickets p (fun i _ => some (rewindFinal r i)) true
  (s.modPanel p fun r => { r with
    cursor := .nextKnown addr
    access := .idle
    repoll := false
    resumePoll := false
    fetched := none
    window := []
    head := .clear
    cont := false
    fault := .none
    state := .parked }).setOp (.rewindWrites p)

/-! ### The waiting request -/

/-- A request whose status writes are all answered completes with a result. -/
def State.finishWrites (s : State) (res : Result) : State :=
  if s.port.statusOfRequest then s else s.complete res

/-- The waits of UNBIND and REWIND: no transaction of the panel in flight, and its chain access IDLE (R19, R37, R43). -/
def State.waitsOver (s : State) (p : PanelId) : Bool := !s.inFlight p && (s.panel p).access = .idle

/-- The request in progress goes on as far as its waits allow. -/
def State.advance (s : State) : State :=
  match s.ctl.op with
  | .unbindWait p => if s.waitsOver p then (s.unbindProceed p).unbindFinish p else s
  | .unbindWrites p => s.unbindFinish p
  | .rewindWait p addr =>
    if s.waitsOver p then
      let s := s.rewindProceed p addr
      s.finishWrites s.writesResult
    else s
  | .rewindWrites _ => s.finishWrites s.writesResult
  | .breakWrites _ => s.finishWrites s.writesResult
  | .parkWrite _ => s.finishWrites .parkForced
  | .none | .reading .. | .reporting | .parkWait _ | .parkForced _ => s

/-- What closes an event: the waiting request goes on, the panel table acts on the heads it may act on, and the tolerance
reporter recomputes (R47, R164, log 18, 19). It recomputes whether or not the event has changed an input of the idle time,
where R164 names only events that change one: the model's choice, log 33. It also recomputes between an event that lets a
ticket fetch start and the TICKET_FETCH that R8 starts at it: the model's choice, log 37. -/
def State.commit (s : State) : State := (actHeads 128 s.advance).recompute

end Sys2Proof.Machine
end

