-- ==== Sys2Proof/Machine/Completion.lean ====
section
/-! DEFINITION. What a transaction completion does to the head of each kind (R40, R51, R52, R58 to R64, R84, R108). -/
namespace Sys2Proof.Machine

/-- DONE with reason NONE and a detail. -/
def doneWith (detail : Nat) : Final := { state := .done, reason := .none, detail := detail }

/-- The final status of an image ticket whose last strip completes: DONE_LATE when the count passes its latest period
(R52). -/
def imageFinal (t : Ticket) (h : Nat) (count : Word) : Final :=
  match t.latest with
  | none => doneWith h
  | some latest => if passes count latest then { state := .doneLate, reason := .none, detail := h } else doneWith h

/-- The piece being sent is finished by n more rows (R51). -/
def Panel.finishesPiece (r : Panel) (n : Nat) : Bool :=
  match r.headPieces[r.head.piece]? with
  | some pc => pc.rows ≤ r.head.rows + n
  | none => true

/-- The head progress and the continuation flag after a strip of n rows (R51, R84). -/
def Panel.stripDone (r : Panel) (n : Nat) : Panel :=
  let fin := r.finishesPiece n
  { r with
    head := if fin then { r.head with piece := r.head.piece + 1, rows := 0 }
      else { r.head with rows := r.head.rows + n }
    cont := !fin && r.state ≠ .parking }

/-- A strip of n rows completes (R51, R52). -/
def State.completeStrip (s : State) (p : PanelId) (n : Nat) : State :=
  let r := (s.panel p).stripDone n
  let s := s.setPanel p r
  match r.headTicket with
  | none => s
  | some t =>
    match t.body.rect? with
    | none => s
    | some rect =>
      if r.headPieces.length ≤ r.head.piece then s.endHead p (imageFinal t rect.h s.timer.count) false else s

/-- The head is a started ticket with this body (R64). -/
def Panel.startedOn (r : Panel) (b : Body) : Bool :=
  r.head.started && (match r.headTicket with
    | some t => t.body = b
    | none => false)

/-- The settle ends: the display takes its end state, a woken panel's channel enters UNTRACKED with its watch armed, and a
started SLEEP or WAKE head is written DONE (R64). -/
def State.endSettle (s : State) (p : PanelId) : State :=
  let r := s.panel p
  match r.display with
  | .awake | .asleep => s
  | .settlingToAsleep =>
    let s := s.setPanel p { r with display := .asleep }
    if r.startedOn .sleep then s.endHead p (doneWith 0) false else s
  | .settlingToAwake =>
    let s := s.setPanel p { r with display := .awake, tear := r.tear.enterUntracked (0 < r.desc.teWatch) }
    if r.startedOn .wake then s.endHead p (doneWith 0) false else s

/-- A SLEEP's transaction completes: the channel enters UNTRACKED, and the settle begins, or ends at once when it is 0
(R62, R108). -/
def State.completeSleep (s : State) (p : PanelId) : State :=
  let n := (s.profileOf p).sleepSettle
  let s := s.modPanel p fun r => { r with
    display := .settlingToAsleep
    settle := n
    tear := r.tear.enterUntracked false }
  if n = 0 then s.endSettle p else s

/-- A WAKE's transaction completes: the settle begins, or ends at once when it is 0 (R63). -/
def State.completeWake (s : State) (p : PanelId) : State :=
  let n := (s.profileOf p).wakeSettle
  let s := s.modPanel p fun r => { r with display := .settlingToAwake, settle := n }
  if n = 0 then s.endSettle p else s

/-- A READ completes: the reply write, then the DONE write (R60). -/
def State.completeRead (s : State) (p : PanelId) (reply : List Byte) : State :=
  match (s.panel p).headTicket with
  | none => s
  | some t =>
    (s.takeWrite { kind := .reply p, addr := t.addr + 18, data := reply }).endHead p (doneWith 0) false

/-- The PARK that waited for a transaction completes with OK (R40), and so it does when its wait ran out in ENDING, too late
to cut the transaction (R134, R139, log 36). -/
def State.parkDone (s : State) (p : PanelId) : State :=
  match s.ctl.op with
  | .parkWait q => if q = p then s.complete .ok else s
  | .parkForced q => if q = p then s.complete .ok else s
  | _ => s

/-- The completion of a transaction, applied to the panel's head as its kind gives (R51, R58 to R63). -/
def State.applyWork (s : State) (p : PanelId) (work : Work) (reply : List Byte) : State :=
  match work with
  | .strip n => s.completeStrip p n
  | .scroll o => (s.modPanel p fun r => { r with scroll := o }).endHead p (doneWith 0) false
  | .send => s.endHead p (doneWith 0) false
  | .read => s.completeRead p reply
  | .sleep => s.completeSleep p
  | .wake => s.completeWake p

/-- The panel table at a transaction completion: the head first, then a PARKING panel parks (R40, R140). -/
def State.applyCompletion (s : State) (p : PanelId) (work : Work) (reply : List Byte) : State :=
  ((s.applyWork p work reply).modPanel p Panel.endParking).parkDone p

end Sys2Proof.Machine
end

