-- ==== Sys2Proof/Machine/Flags.lean ====
section
/-! DEFINITION. The flags of the control port: interrupt causes and lines, and every register as a read shows it
(R168, R174, R175). -/
namespace Sys2Proof.Machine

/-! ### Interrupt causes and lines (R175) -/

/-- The four causes, in the order of their IRQ_STATUS bits and IRQ_LEVELS fields. -/
def State.causes (s : State) : List Bool := [s.ctl.done, s.ctl.notify ≠ 0, s.ctl.fault ≠ 0, s.ctl.overrun]

/-- The level of cause i in IRQ_LEVELS. -/
def State.irqLevel (s : State) (i : Nat) : Nat := (s.ctl.levels.extractLsb' (2 * i) 2).toNat

/-- A pending cause has a level that satisfies a test. -/
def State.causeAt (s : State) (test : Nat → Bool) : Bool :=
  [0, 1, 2, 3].any fun i => (s.causes[i]?.getD false) && test (s.irqLevel i)

/-- IRQ_ROUTINE is asserted while a pending cause has level 1. -/
def State.irqRoutine (s : State) : Bool := s.causeAt (· == 1)

/-- IRQ_URGENT is asserted while a pending cause has level 2 or 3. -/
def State.irqUrgent (s : State) : Bool := s.causeAt (2 ≤ ·)

/-! ### The register window (R168) -/

/-- The byte offset of a register in the window (R168). -/
def regOffset : Reg → Nat
  | .ident => 0x00 | .partControl => 0x04 | .partStatus => 0x08 | .period => 0x0C | .ctlArg => 0x10
  | .ctlRequest => 0x14 | .ctlResult => 0x18 | .nudge => 0x1C | .notify => 0x20 | .fault => 0x24
  | .irqLevels => 0x28 | .irqStatus => 0x2C

/-- The twelve registers, in the order of their offsets. -/
def allRegs : List Reg :=
  [.ident, .partControl, .partStatus, .period, .ctlArg, .ctlRequest, .ctlResult, .nudge, .notify, .fault, .irqLevels,
    .irqStatus]

/-- The register at an offset of the window, if one stands there (R168). -/
def regAt (offset : Nat) : Option Reg := allRegs.find? fun r => regOffset r = offset

/-- A bit as a number. -/
def bitAt (b : Bool) (i : Nat) : Word := if b then BitVec.ofNat 32 (2 ^ i) else 0

/-- What a read of a register returns. A read changes nothing. -/
def State.readReg (s : State) : Reg → Word
  | .ident => 0x04161410
  | .partControl =>
    bitAt (s.part = .running) 0 ||| (s.ctl.units.zeroExtend 32 <<< 8) ||| bitAt s.ctl.tolEnable 16
  | .partStatus =>
    BitVec.ofNat 32 s.part.code ||| bitAt (s.ctl.resState = .busy) 4 ||| bitAt s.ctl.overrun 5 |||
      bitAt s.pins.throttle 8 ||| bitAt s.tol.inFlight.isSome 9
  | .period => s.timer.count
  | .ctlArg => s.ctl.arg
  | .ctlRequest => s.ctl.code.zeroExtend 32 ||| (s.ctl.target.zeroExtend 32 <<< 8)
  | .ctlResult => BitVec.ofNat 32 s.ctl.resState.code ||| (s.ctl.result.code.zeroExtend 32 <<< 8)
  | .nudge => 0
  | .notify => s.ctl.notify.zeroExtend 32
  | .fault => s.ctl.fault.zeroExtend 32
  | .irqLevels => s.ctl.levels.zeroExtend 32
  | .irqStatus =>
    bitAt s.ctl.done 0 ||| bitAt (s.ctl.notify ≠ 0) 1 ||| bitAt (s.ctl.fault ≠ 0) 2 ||| bitAt s.ctl.overrun 3

/-- What a read at an offset of the window returns, where a register stands there. -/
def State.readAt (s : State) (offset : Nat) : Option Word := (regAt offset).map s.readReg

/-! ### Clearing flags (R168, R174, R175) -/

/-- A write of NOTIFY clears the bits written 1. -/
def State.clearNotify (s : State) (bits : Half) : State := s.setCtl { s.ctl with notify := s.ctl.notify &&& ~~~bits }

/-- A write of FAULT clears the bits written 1. -/
def State.clearFault (s : State) (bits : Half) : State := s.setCtl { s.ctl with fault := s.ctl.fault &&& ~~~bits }

/-- CTL_DONE is cleared. -/
def State.clearDone (s : State) : State := s.setCtl { s.ctl with done := false }

/-- CTL_OVERRUN is cleared. -/
def State.clearOverrun (s : State) : State := s.setCtl { s.ctl with overrun := false }

/-- IRQ_LEVELS takes a value. -/
def State.setLevels (s : State) (levels : Byte) : State := s.setCtl { s.ctl with levels := levels }

/-- The final states whose write's response sets the FAULT bit: FAILED, ABORTED and GATE_BROKEN (R75). -/
def Status.isFault : Status → Bool
  | .failed => true
  | .aborted => true
  | .gateBroken => true
  | .posted => false
  | .taken => false
  | .done => false
  | .doneLate => false
  | .superseded => false
  | .expired => false
  | .cancelled => false

/-- The response OK of a final status write sets the panel's NOTIFY bit when the ticket carried NOTIFY, and its FAULT bit
by the state written (R75). -/
def State.statusBits (s : State) (p : PanelId) (st : Status) (notify : Bool) : State :=
  let s := if notify then s.setNotifyBit p else s
  if st.isFault then s.setFaultBit p else s

end Sys2Proof.Machine
end

