-- ==== Sys2Proof/Machine/PortEvents.lean ====
section
/-! DEFINITION. The request arbiter and the answers to chain reads and to writes (R8 to R14, R74 to R77, R156 to R161). -/
namespace Sys2Proof.Machine

/-! ### The request arbiter (R158) -/

/-- The lanes in round-robin order after the lane last served. -/
def lanesAfter (last : LaneId) : List LaneId := [last + 1, last + 2, last + 3, last]

/-- Class 1: the next pixel fetch transaction, lanes in round robin. -/
def Port.class1 (q : Port) : Option Port :=
  (lanesAfter q.lastLane).findSome? fun l =>
    match q.pixQ[l] with
    | [] => none
    | t :: rest => some { q with pixQ := q.pixQ.set l rest, outReads := q.outReads ++ [t], lastLane := l }

/-- The oldest write of the queue, when it is of the class asked for (R158). -/
def Port.sendWrite (q : Port) (report : Bool) : Option Port :=
  match q.writeQ with
  | [] => none
  | w :: rest =>
    if (w.kind == .report) = report then some { q with writeQ := rest, outWrites := q.outWrites ++ [w] } else none

/-- A chain read is held while a write for its panel is queued or outstanding (R159). -/
def Port.heldRead (q : Port) (t : ReadTxn) : Bool :=
  match t.owner with
  | .ticket p => q.writesFor p
  | .link p => q.writesFor p
  | .pixel .. => false
  | .control .. => false

/-- Class 3: the oldest ticket read or link poll that is not held. -/
def Port.class3 (q : Port) : Option Port :=
  match q.chainQ.find? fun t => !q.heldRead t with
  | none => none
  | some t => some { q with chainQ := q.chainQ.erase t, outReads := q.outReads ++ [t] }

/-- Class 4, the control read of the request in progress. -/
def Port.class4 (q : Port) : Option Port :=
  match q.ctlQ with
  | [] => none
  | t :: rest => some { q with ctlQ := rest, outReads := q.outReads ++ [t] }

/-- Fewer than 8 reads are outstanding. -/
def Port.readRoom (q : Port) : Bool := q.outReads.length < 8

/-- Fewer than 4 writes are outstanding. -/
def Port.writeRoom (q : Port) : Bool := q.outWrites.length < 4

/-- A step of the port that needs room. -/
def whenRoom (room : Bool) (x : Option Port) : Option Port := if room then x else none

/-- The first class, in the order 1, 2, 3, 4, that holds a sendable request sends it (R158). -/
def Port.send (q : Port) : Option Port :=
  whenRoom q.readRoom q.class1 <|>
  whenRoom q.writeRoom (q.sendWrite false) <|>
  whenRoom q.readRoom q.class3 <|>
  whenRoom q.readRoom q.class4 <|>
  whenRoom q.writeRoom (q.sendWrite true)

/-- MEMORY_REQUEST_SENT (R158); with nothing sendable nothing is sent. -/
def execMemoryRequestSent (s : State) : Host.Outcome State Fault Refusal :=
  .next (match s.port.send with
    | none => s
    | some q => (s.setPort q).recompute)

/-! ### Answers (R156) -/

/-- The response to the outstanding read of an owner: its place is freed, and the continuation gets the bytes, or none for
ERROR. A response the bus contract rules out is a fault (log 4). -/
def State.answerRead (s : State) (own : ReadOwner → Bool) (resp : ReadResp)
    (k : Option (List Byte) → State → State) : Host.Outcome State Fault Refusal :=
  match s.port.outReads.find? fun t => own t.owner with
  | none => .fault .noSuchTransaction
  | some t =>
    let s' := s.setPort { s.port with outReads := s.port.outReads.erase t }
    match resp with
    | .error => .next (k none s')
    | .ok bs => if bs.length = t.len then .next (k (some bs) s') else .fault .wrongLength

/-- The response to the oldest outstanding write, which must be of the kind the command names: responses come in the order
the writes were sent (R156). -/
def State.answerWrite (s : State) (want : WriteKind → Bool) (k : WriteTxn → State → State) :
    Host.Outcome State Fault Refusal :=
  match s.port.outWrites with
  | [] => .fault .noSuchTransaction
  | w :: rest =>
    if want w.kind then .next (k w (s.setPort { s.port with outWrites := rest })) else .fault .noSuchTransaction

/-! ### Ticket fetch (R8 to R13) -/

/-- TICKET_FETCH (R8). The level has been recomputed at the event that let the fetch start, before the read is taken: the
model's choice, log 37. -/
def execTicketFetch (p : PanelId) (s : State) : Host.Outcome State Fault Refusal :=
  .next (if s.mayFetch p then
    ((s.modPanel p fun r => { r with access := .fetching }).takeChainRead
      { owner := .ticket p, addr := (s.panel p).cursor.addr, len := 64 }).recompute
  else s)

/-- A chain access ends with a fault, the cursor staying (R10, R13, R14). -/
def State.endAccessFault (s : State) (p : PanelId) (code : FaultCode) : State :=
  ((s.modPanel p fun r => { r with access := .idle, fetched := none }).haltFault p code).accessEnded p

/-- A MALFORMED ticket: FAILED/MALFORMED is written, the fault raised, the cursor moved past the ticket (R11). -/
def State.malformedTicket (s : State) (p : PanelId) (addr : Word) (bs : List Byte) : State :=
  let s := s.writeStatus p addr (ticketFlag bs 0) { state := .failed, reason := .malformed, detail := 0 } false
  let s := s.haltFault p .malformed
  (s.modPanel p fun r => { r with access := .idle, cursor := cursorPast addr (ticketLink bs) }).accessEnded p

/-- A valid ticket: TAKEN is written, and the fetch waits for its answer (R12). -/
def State.writeTaken (s : State) (p : PanelId) (t : Ticket) (link : Word) : State :=
  (s.takeWrite { kind := .taken p, addr := t.addr + 8, data := statusBytes .taken .none 0 }).modPanel p
    fun r => { r with fetched := some (t, link) }

/-- The ticket read is answered (R10 to R13). -/
def State.ticketRead (s : State) (p : PanelId) (resp : Option (List Byte)) : State :=
  let addr := (s.panel p).cursor.addr
  match resp with
  | none => s.endAccessFault p .fetchError
  | some bs =>
    if !ticketPosted bs then s.endAccessFault p .notPosted
    else match parseTicket addr bs with
      | none => s.malformedTicket p addr bs
      | some t => s.writeTaken p t (ticketLink bs)

/-- While RESETTING every response is discarded (R161); else it is applied, and the event closed. -/
def State.unlessResetting (s : State) (f : State → State) : State :=
  if s.part = .resetting then s else (f s).commit

/-- TICKET_READ_ANSWERED (R10). -/
def execTicketReadAnswered (p : PanelId) (resp : ReadResp) (s : State) : Host.Outcome State Fault Refusal :=
  s.answerRead (· == .ticket p) resp fun bs s => s.unlessResetting fun s => s.ticketRead p bs

/-- The TAKEN write is answered OK: the ticket is taken, the cursor moves, a bad link is reported (R12). -/
def State.taken (s : State) (p : PanelId) : State :=
  match (s.panel p).fetched with
  | none => s
  | some (t, link) =>
    let s := (s.take p t).modPanel p fun r => { r with
      cursor := cursorPast t.addr link
      access := .idle
      fetched := none }
    (if badLink link then s.haltFault p .linkBad else s).accessEnded p

/-- A TAKEN write. -/
def WriteKind.isTaken : WriteKind → Bool
  | .taken _ => true
  | _ => false

/-- The response to a TAKEN write, applied (R12, R13). -/
def State.takenAnswered (s : State) (kind : WriteKind) (resp : WriteResp) : State :=
  match kind with
  | .taken p =>
    match resp with
    | .ok => s.taken p
    | .error => s.endAccessFault p .writebackError
  | _ => s

/-- TAKEN_WRITE_ANSWERED (R12). -/
def execTakenWriteAnswered (resp : WriteResp) (s : State) : Host.Outcome State Fault Refusal :=
  s.answerWrite WriteKind.isTaken fun w s => s.unlessResetting fun s => s.takenAnswered w.kind resp

/-! ### Link polls (R14) -/

/-- A poll that found link 0 with the repoll mark set (R14). -/
def State.repollAgain (s : State) (p : PanelId) : State :=
  let r := s.panel p
  if r.active then
    if s.part = .running then (s.setPanel p { r with repoll := false }).issuePoll p else s
  else s.setPanel p { r with repoll := false }

/-- The link poll is answered (R14). A repoll begun here also serves a RESUME that waits on this access (R17): the model's
choice, log 11. -/
def State.linkPolled (s : State) (p : PanelId) (resp : Option (List Byte)) : State :=
  let s := s.modPanel p fun r => { r with access := .idle }
  match resp with
  | none => ((s.modPanel p fun r => { r with repoll := false }).haltFault p .fetchError).accessEnded p
  | some bs =>
    let link := word32 bs 0
    if link = 0 then (if (s.panel p).repoll then s.repollAgain p else s).accessEnded p
    else if alignedAddr 64 link then
      (s.modPanel p fun r => { r with repoll := false, cursor := .nextKnown link }).accessEnded p
    else ((s.modPanel p fun r => { r with repoll := false }).haltFault p .linkBad).accessEnded p

/-- LINK_POLL_ANSWERED (R14). -/
def execLinkPollAnswered (p : PanelId) (resp : ReadResp) (s : State) : Host.Outcome State Fault Refusal :=
  s.answerRead (· == .link p) resp fun bs s => s.unlessResetting fun s => s.linkPolled p bs

/-! ### Status and reply writes (R75 to R77) -/

/-- A final status write. -/
def WriteKind.isStatus : WriteKind → Bool
  | .status .. => true
  | _ => false

/-- The response to a final status write, applied (R75, R76, R38). -/
def State.statusAnswered (s : State) (kind : WriteKind) (resp : WriteResp) : State :=
  match kind with
  | .status p st notify ofRequest =>
    match resp with
    | .ok => s.statusBits p st notify
    | .error =>
      let s := s.haltFault p .writebackError
      if ofRequest then s.setCtl { s.ctl with busErr := true } else s
  | _ => s

/-- STATUS_WRITE_ANSWERED (R75). -/
def execStatusWriteAnswered (resp : WriteResp) (s : State) : Host.Outcome State Fault Refusal :=
  s.answerWrite WriteKind.isStatus fun w s => s.unlessResetting fun s => s.statusAnswered w.kind resp

/-- A reply write. -/
def WriteKind.isReply : WriteKind → Bool
  | .reply _ => true
  | _ => false

/-- The response to a reply write, applied (R77). -/
def State.replyAnswered (s : State) (kind : WriteKind) (resp : WriteResp) : State :=
  match kind with
  | .reply p =>
    match resp with
    | .ok => s
    | .error => s.haltFault p .writebackError
  | _ => s

/-- REPLY_WRITE_ANSWERED (R77). -/
def execReplyWriteAnswered (resp : WriteResp) (s : State) : Host.Outcome State Fault Refusal :=
  s.answerWrite WriteKind.isReply fun w s => s.unlessResetting fun s => s.replyAnswered w.kind resp

end Sys2Proof.Machine
end

