-- ==== Sys2Proof/Machine/LaneEvents.lean ====
section
/-! DEFINITION. The events of the lanes: grants, byte times, pixel fetch answers, completions and gaps (R125, R131 to
R140). -/
namespace Sys2Proof.Machine

/-- LANE_GRANT (R125): with no eligible panel the lane stays idle (R123). -/
def execLaneGrant (l : LaneId) (s : State) : Host.Outcome State Fault Refusal :=
  .next (match s.winner l with
    | none => s
    | some p => (s.grant l p).recompute)

/-- BYTE_TIME_END (R135, R139): a byte time ends in SHIFTING and in ABORTING; in the other states there is none (R134). -/
def execByteTimeEnd (l : LaneId) (ldi : Half) (s : State) : Host.Outcome State Fault Refusal :=
  .next (match (s.lane l).link with
    | .shifting => ((s.modLane l fun ln => ln.byteEnd ldi).requestRows l).recompute
    | .aborting => (s.deassert l).commit
    | .idle | .stalled | .ending | .gapAfterAbort => s)

/-! ### Pixel fetch answers (R136, R137) -/

/-- All that was sent of a buffer's fetch is answered, and nothing waits to be sent. Where an abort has dropped the unsent
transactions of a row, so that never all are answered, the model takes the row's request as answered when all sent ones are:
its choice, log 9. -/
def State.fetchOver (s : State) (l : LaneId) (b : BufId) : Bool := !s.port.awaits l b && !s.port.unsent l b

/-- The bytes that have arrived for a row. -/
def gotLength (got : List (Nat × List Byte)) : Nat := (got.map fun p => p.2.length).sum

/-- The feed that a lane's rows are converted for. -/
def Lane.drawFeed (ln : Lane) : Option DrawFeed :=
  match ln.tx with
  | some t => match t.feed with
    | .draw d => some d
    | _ => none
  | none => none

/-- A row is wholly in its buffer: it is converted and held, a stall on it ends (R136, R138). -/
def State.rowWhole (s : State) (l : LaneId) (b : BufId) (row : Nat) (bytes : List Byte) : State :=
  match (s.lane l).drawFeed with
  | none => s
  | some d => (s.modLane l fun ln => (ln.setBuf b (.held row (convertRow d bytes))).rowReady).requestRows l

/-- A row's request is answered: OK makes the row whole, any ERROR among its transactions is a pixel error (R137, R156,
log 9). -/
def State.rowAnswered (s : State) (l : LaneId) (b : BufId) (row want : Nat) (got : List (Nat × List Byte)) (err : Bool) :
    State :=
  if err then s.pixelError l
  else if gotLength got = want then s.rowWhole l b row (assemble got)
  else s

/-- The answer to one transaction of the fetch into a buffer (R136, R139). An ERROR kept from an earlier transaction of the
row is found with the last answer that is due; if an abort drops the rest while none is due, no answer finds it (the model's
choice where R137 is silent, log 9). -/
def State.pixelAnswered (s : State) (l : LaneId) (b : BufId) (off : Nat) (resp : Option (List Byte)) : State :=
  match (s.lane l).buf b with
  | .fetching row want got err =>
    let got' := match resp with
      | some bs => insertPart off bs got
      | none => got
    let err' := err || resp.isNone
    let s := s.modLane l fun ln => ln.setBuf b (.fetching row want got' err')
    if s.fetchOver l b then s.rowAnswered l b row want got' err' else s
  | .reserved =>
    if s.fetchOver l b then (s.modLane l fun ln => ln.setBuf b .free).requestRows l else s
  | .free | .held .. => s

/-- The outstanding transaction at an offset of the fetch into a buffer. -/
def ReadOwner.isPixel (l : LaneId) (b : BufId) (off : Nat) (o : ReadOwner) : Bool := o == .pixel l b off

/-- A discarded answer: a buffer that a cut left reserved becomes free with the last answer it awaits, and nothing else
changes (R136, R139, R161). -/
def State.pixelDiscarded (s : State) (l : LaneId) (b : BufId) : State :=
  match (s.lane l).buf b with
  | .reserved => if s.fetchOver l b then s.modLane l fun ln => ln.setBuf b .free else s
  | .free | .held .. | .fetching .. => s

/-- PIXEL_FETCH_ANSWERED (R136). While RESETTING the answer is discarded, OK or ERROR alike: it raises no pixel error, even
for a row with an ERROR from before the reset, and no row is requested (R20, R55, R161, R170). -/
def execPixelFetchAnswered (l : LaneId) (b : BufId) (off : Nat) (resp : ReadResp) (s : State) :
    Host.Outcome State Fault Refusal :=
  s.answerRead (ReadOwner.isPixel l b off) resp fun bs s =>
    if s.part = .resetting then s.pixelDiscarded l b else (s.pixelAnswered l b off bs).commit

/-! ### Ends of transactions (R131, R134, R140) -/

/-- The lane becomes idle, with no transaction. -/
def Lane.toIdle (ln : Lane) : Lane := { ln with link := .idle, tx := none, cause := none, reply := [] }

/-- TRANSACTION_COMPLETION (R131): while RESETTING the completion reaches no record (R46). The panel table applies the
completion in this command, so always before the arbiter's decision, one of the two orders R140 allows (log 32). -/
def execTransactionCompletion (l : LaneId) (s : State) : Host.Outcome State Fault Refusal :=
  let ln := s.lane l
  .next (match ln.link with
    | .ending =>
      let s := s.modLane l Lane.toIdle
      if s.part = .resetting then s
      else match ln.tx with
        | none => s.commit
        | some t => (s.applyCompletion t.panel t.work ln.reply).commit
    | .idle | .shifting | .stalled | .aborting | .gapAfterAbort => s)

/-- GAP_AFTER_ABORT_END (R134): the lane becomes idle, without a completion. -/
def execGapAfterAbortEnd (l : LaneId) (s : State) : Host.Outcome State Fault Refusal :=
  .next (match (s.lane l).link with
    | .gapAfterAbort => (s.modLane l Lane.toIdle).recompute
    | .idle | .shifting | .stalled | .aborting | .ending => s)

end Sys2Proof.Machine
end

