-- ==== Sys2Proof/Machine/PartControl.lean ====
section
/-! DEFINITION. The commands of PART_CONTROL, the pin reset and the end of the drain (R46, R112, R113, R166 to R170). -/
namespace Sys2Proof.Machine

/-- PERIOD_UNITS as a length in units of 125 µs: 0 gives 64 (R112). -/
def periodLength (units : BitVec 6) : Nat := if units = 0 then 64 else units.toNat

/-- Every panel record takes its pin reset values (R45). -/
def State.resetPanels (s : State) : State :=
  allPanels.foldl (fun s p => s.setPanel p (.reset (s.tePin p))) s

/-- A lane after the drain of a soft reset: the setup is kept (R116, R142). -/
def Lane.drained (ln : Lane) : Lane :=
  { Lane.reset with rateCode := ln.rateCode, capacity := ln.capacity, reserve := ln.reserve }

/-- PART_CONTROL takes PERIOD_UNITS (R112). -/
def State.setUnits (s : State) (units : BitVec 6) : State := s.setCtl { s.ctl with units := units }

/-! ### RUN (R169) -/

/-- The panels whose pending repoll RUN issues (R16). -/
def State.repolls (s : State) : List PanelId :=
  allPanels.filter fun p => (s.panel p).chainIdle && (s.panel p).cursor.watching && (s.panel p).repoll

/-- RUN goes to 1: a period begins, and fetches, pending repolls, heads and arbiters may act (R113, R16, R47). -/
def State.startRun (s : State) : State :=
  let s := (s.setPart .running).setTimer { s.timer with period := some (periodLength s.ctl.units, 0) }
  let ps := s.repolls
  ((ps.foldl (fun s p => s.modPanel p fun r => { r with repoll := false }) s).issuePolls ps).commit

/-- RUN goes to 0: the period in progress is abandoned, open write windows close and every estimate base is cleared
(R103, R113); no boundary comes for a TE event to meet (log 31). -/
def State.stopRun (s : State) : State :=
  let s := (s.setPart .stopped).setTimer { s.timer with period := none }
  (allPanels.foldl (fun s p => s.modPanel p fun r => { r with tear := r.tear.stop }) s).recompute

/-- RUN takes a value: STOPPED goes to RUNNING with 1, RUNNING to STOPPED with 0, all else stays (R169). -/
def State.writeRun (s : State) (run : Bool) : State :=
  if run then (if s.part = .stopped then s.startRun else s)
  else if s.part = .running then s.stopRun
  else s

/-- A PART_CONTROL write with RESET 0: PERIOD_UNITS, then TOL_ENABLE, then RUN (R169, log 16). -/
def State.writePartControl (s : State) (run : Bool) (units : BitVec 6) (tolEnable : Bool) : State :=
  ((s.setUnits units).setTolEnable tolEnable).writeRun run

/-! ### Soft reset (R170) -/

/-- The control port at entry to RESETTING: masks and flags cleared, a request in progress ended with RESET (R170, R173). -/
def Control.enterReset (c : Control) : Control :=
  { c with
    notify := 0
    fault := 0
    done := false
    overrun := false
    op := .none
    busErr := false
    resState := if c.resState = .busy then .done else c.resState
    result := if c.resState = .busy then .reset else c.result }

/-- The memory port at entry to RESETTING: reads taken and not yet sent are dropped (R161). -/
def Port.enterReset (q : Port) : Port := { q with pixQ := Vector.replicate 4 [], chainQ := [], ctlQ := [] }

/-- Entry to RESETTING (R170, R166). -/
def State.enterReset (s : State) : State :=
  let s := (s.setPart .resetting).setTimer { s.timer with period := none }
  let s := (s.setCtl s.ctl.enterReset).setPort s.port.enterReset
  let s := allLanes.foldl (fun s l => s.abort l .softReset) s
  (s.setTol { s.tol with level := .active }).sendLevel

/-- A PART_CONTROL write with RESET 1: PERIOD_UNITS and TOL_ENABLE of the same write, then the entry to RESETTING. Already
RESETTING, it has no further effect (R170); that it takes both fields even then, TOL_ENABLE with what it does at the tolerance
port (R166, R169), is the model's choice, log 35. -/
def State.softReset (s : State) (units : BitVec 6) (tolEnable : Bool) : State :=
  let s := (s.setUnits units).setTolEnable tolEnable
  if s.part = .resetting then s else s.enterReset

/-- The drain is complete: every lane is idle and the memory port is drained (R161, R170). -/
def State.drained (s : State) : Bool := s.part = .resetting && !s.lanesBusy && !s.port.busy

/-- The soft reset values of every block (R46, R111, R112, R116, R142, R155, R161, R167). -/
def State.softResetValues (s : State) : State :=
  let s := (s.setPart .stopped).setTimer { count := 0, period := none }
  let s := { (s.setPort .reset).resetPanels with gates := Vector.replicate 8 Gate.free }
  allLanes.foldl (fun s l => s.modLane l Lane.drained) s

/-! ### The commands -/

/-- PIN_RESET (R170): every block at its pin reset values at once; the input pins keep their levels (log 7). -/
def execPinReset (s : State) : Host.Outcome State Fault Refusal :=
  .next ({ State.reset with pins := s.pins, freeCount := s.freeCount, pending := s.pending }).resetPanels

/-- SOFT_RESET (R170). -/
def execSoftReset (units : BitVec 6) (tolEnable : Bool) (s : State) : Host.Outcome State Fault Refusal :=
  .next (s.softReset units tolEnable)

/-- DRAIN_COMPLETE (R170). -/
def execDrainComplete (s : State) : Host.Outcome State Fault Refusal :=
  .next (if s.drained then s.softResetValues.recompute else s)

/-- RUN_START (R169). -/
def execRunStart (units : BitVec 6) (tolEnable : Bool) (s : State) : Host.Outcome State Fault Refusal :=
  .next (s.writePartControl true units tolEnable)

/-- RUN_STOP (R169). -/
def execRunStop (units : BitVec 6) (tolEnable : Bool) (s : State) : Host.Outcome State Fault Refusal :=
  .next (s.writePartControl false units tolEnable)

/-- PERIOD_UNITS_WRITE (R112): the length the next period to begin takes. -/
def execPeriodUnitsWrite (units : BitVec 6) (s : State) : Host.Outcome State Fault Refusal :=
  .next (s.writePartControl (s.part = .running) units s.ctl.tolEnable)

/-- TOL_ENABLE_WRITE (R166). -/
def execTolEnableWrite (tolEnable : Bool) (s : State) : Host.Outcome State Fault Refusal :=
  .next (s.writePartControl (s.part = .running) s.ctl.units tolEnable)

end Sys2Proof.Machine
end

