-- ==== Sys2Proof/Machine/PinEvents.lean ====
section
/-! DEFINITION. The events of the input pins: TE, THROTTLE, TOL_ACCEPT (R96 to R98, R126, R165). -/
namespace Sys2Proof.Machine

/-- The TE pin of a slot takes a level. -/
def State.setTePin (s : State) (p : PanelId) (level : Bool) : State :=
  s.setPins { s.pins with
    te := if level then s.pins.te ||| panelBit p else s.pins.te &&& ~~~panelBit p }

/-- An edge said to fall together with the boundary still to come does so where that boundary is the next thing in time, in
the last unit of the period in progress (R100, R102, log 31). -/
def State.meetsBoundary (s : State) (together : Bool) : Bool := together && s.timer.ending

/-- A TE event of a slot (R98, R100, R102). -/
def State.teEvent (s : State) (p : PanelId) (meets : Bool) : State :=
  s.modPanel p fun r => { r with tear := r.tear.teEvent r.desc s.timer.count meets }

/-- The conditioner of a slot accepts a level: a qualified edge, which is a TE event or is dropped (R96, R97). -/
def State.acceptEdge (s : State) (p : PanelId) (edge : Edge) : State :=
  let te := s.isTeEvent p edge.level
  let meets := s.meetsBoundary edge.together
  let s := (s.setTePin p edge.level).modPanel p fun r => { r with tear := r.tear.takeLevel edge.level }
  if te then (s.teEvent p meets).recompute else s

/-- QUALIFIED_EDGE (R96): under filter NONE a change of the pin, under filter n the sample that brings the run count to n
(log 8). -/
def execQualifiedEdge (p : PanelId) (edge : Edge) (s : State) : Host.Outcome State Fault Refusal :=
  .next (if (s.panel p).tear.edgeDue edge.level then s.acceptEdge p edge else s)

/-- The sample of one slot's conditioner: filter NONE is not sampled (R96). -/
def State.sampleTe (s : State) (p : PanelId) (level : Bool) : State :=
  match (s.panel p).tear.filter with
  | .none => s
  | .two | .four | .eight => (s.setTePin p level).modPanel p fun r => { r with tear := r.tear.sample level }

/-- TE_FILTER_SAMPLE (R96). -/
def execTeFilterSample (levels : Half) (s : State) : Host.Outcome State Fault Refusal :=
  .next (allPanels.foldl (fun s p => s.sampleTe p (hasPanel levels p)) s)

/-- THROTTLE_HIGH (R126). -/
def execThrottleHigh (s : State) : Host.Outcome State Fault Refusal :=
  .next (if s.pins.throttle then s else (s.setPins { s.pins with throttle := true }).recompute)

/-- THROTTLE_LOW (R126). -/
def execThrottleLow (s : State) : Host.Outcome State Fault Refusal :=
  .next (if s.pins.throttle then (s.setPins { s.pins with throttle := false }).recompute else s)

/-- The message in flight is accepted: the pending value goes out, or TOL_VALID goes low; with none in flight nothing
happens (R165). -/
def Tolerance.accept (t : Tolerance) : Tolerance :=
  match t.inFlight, t.slot with
  | none, _ => t
  | some _, some v => { t with inFlight := some v, slot := none }
  | some _, none => { t with inFlight := none }

/-- TOL_ACCEPT (R165): a rise of the input; while it is already high there is none. -/
def execTolAccept (s : State) : Host.Outcome State Fault Refusal :=
  .next (if s.pins.tolAccept then s else (s.setPins { s.pins with tolAccept := true }).setTol s.tol.accept)

/-- TOL_ACCEPT_LOW (R165). -/
def execTolAcceptLow (s : State) : Host.Outcome State Fault Refusal :=
  .next (s.setPins { s.pins with tolAccept := false })

end Sys2Proof.Machine
end

