-- ==== Sys2Proof/Machine/RecordReads.lean ====
section
/-! DEFINITION. The answers to control reads and to the report write: the records' last checks and what they load
(R31, R33 to R36, R44, R114, R115, R117, R162). -/
namespace Sys2Proof.Machine

/-! ### One transaction of a control read -/

/-- A transaction of the control read is not yet answered. -/
def Port.controlLeft (q : Port) : Bool :=
  !q.ctlQ.isEmpty || q.outReads.any fun t => match t.owner with
    | .control .. => true
    | _ => false

/-- One transaction's bytes join the record; when all are answered the request goes on with the record, or with none when
any was answered ERROR (R156, R160). -/
def State.controlAnswered (s : State) (off : Nat) (resp : Option (List Byte))
    (finish : RecordKind → Option (List Byte) → State → State) : State :=
  match s.ctl.op with
  | .reading kind want got err =>
    let got' := match resp with
      | some bs => insertPart off bs got
      | none => got
    let err' := err || resp.isNone
    let s := s.setOp (.reading kind want got' err')
    if s.port.controlLeft then s.recompute
    else finish kind (if err' then none else some (assemble got')) s
  | _ => s

/-- The transaction at an offset of the control read of a kind of record. -/
def ReadOwner.isControl (isKind : RecordKind → Bool) (off : Nat) : ReadOwner → Bool
  | .control k o => isKind k && o == off
  | .pixel .. => false
  | .ticket _ => false
  | .link _ => false

/-- The answer to a transaction of the control read of a kind of record; discarded while RESETTING (R161). -/
def State.answerControl (s : State) (isKind : RecordKind → Bool) (off : Nat) (resp : ReadResp)
    (finish : RecordKind → Option (List Byte) → State → State) : Host.Outcome State Fault Refusal :=
  s.answerRead (ReadOwner.isControl isKind off) resp fun bs s =>
    if s.part = .resetting then s else s.controlAnswered off bs finish

/-! ### LOAD_PROFILE (R31) -/

/-- A profile's control read. -/
def RecordKind.isProfile : RecordKind → Bool
  | .profile _ => true
  | _ => false

/-- LOAD_PROFILE's checks 4 and 5, and the load (R31). -/
def finishProfile (kind : RecordKind) (bs : Option (List Byte)) (s : State) : State :=
  match kind, bs with
  | .profile slot, some bs =>
    match parseProfile bs with
    | some p => ((s.setProfile slot p).complete .ok).recompute
    | none => (s.complete .badField).recompute
  | _, _ => (s.complete .busError).recompute

/-- PROFILE_READ_ANSWERED (R31). -/
def execProfileReadAnswered (off : Nat) (resp : ReadResp) (s : State) : Host.Outcome State Fault Refusal :=
  s.answerControl RecordKind.isProfile off resp finishProfile

/-! ### SET_LANE (R114, R115) -/

/-- A lane record's control read. -/
def RecordKind.isLaneRecord : RecordKind → Bool
  | .laneRecord _ => true
  | _ => false

/-- The lane's setup record takes the values read, and the reserve credit the new reserve size (R115). -/
def Lane.setUp (ln : Lane) (rate cap res : Nat) : Lane :=
  { ln with rateCode := rate, capacity := cap, reserve := res, reserveCredit := cap * res / 8 }

/-- SET_LANE's checks 4 and 5, and the setup (R114, R115). -/
def finishLane (kind : RecordKind) (bs : Option (List Byte)) (s : State) : State :=
  match kind, bs with
  | .laneRecord l, some bs =>
    match parseLaneRecord bs with
    | some (rate, cap, res) => ((s.modLane l fun ln => ln.setUp rate cap res).complete .ok).recompute
    | none => (s.complete .badField).recompute
  | _, _ => (s.complete .busError).recompute

/-- LANE_RECORD_READ_ANSWERED (R115). -/
def execLaneRecordReadAnswered (off : Nat) (resp : ReadResp) (s : State) : Host.Outcome State Fault Refusal :=
  s.answerControl RecordKind.isLaneRecord off resp finishLane

/-! ### SET_TOLERANCE (R162) -/

/-- A tolerance record's control read. -/
def RecordKind.isTolerance : RecordKind → Bool
  | .tolerance => true
  | _ => false

/-- The record is loaded, the level recomputed, and one message of the level's value sent (R162, log 17). -/
def State.loadTolerance (s : State) (t : TolRecord) : State :=
  let s := s.setTol { s.tol with record := t, loaded := true }
  (s.setTol { s.tol with level := s.newLevel }).sendLevel

/-- SET_TOLERANCE's checks 2 and 3, and the load (R162). -/
def finishTolerance (kind : RecordKind) (bs : Option (List Byte)) (s : State) : State :=
  match kind, bs with
  | .tolerance, some bs =>
    match parseTolerance bs with
    | some t => (s.loadTolerance t).complete .ok
    | none => (s.complete .badField).recompute
  | _, _ => (s.complete .busError).recompute

/-- TOLERANCE_READ_ANSWERED (R162). -/
def execToleranceReadAnswered (off : Nat) (resp : ReadResp) (s : State) : Host.Outcome State Fault Refusal :=
  s.answerControl RecordKind.isTolerance off resp finishTolerance

/-! ### BIND (R33 to R36) -/

/-- A descriptor's control read. -/
def RecordKind.isDescriptor : RecordKind → Bool
  | .descriptor _ => true
  | _ => false

/-- Step 6 (R34): the geometry is sound against the profile. -/
def RawDescriptor.geometry (d : RawDescriptor) (pf : Profile) : Bool :=
  1 ≤ d.width && d.width ≤ 640 && 1 ≤ d.height && d.height ≤ 640 &&
    (pf.k ≠ 1 || (d.width ≤ 256 && d.height ≤ 256)) && d.tfa + d.vsa + d.bfa = d.height

/-- Step 8 (R35): the budgets cover the dearest strip and command item. -/
def Descriptor.budgetsOk (d : Descriptor) (pf : Profile) : Bool :=
  let cost := oneRowCost pf.k d.width pf.fmt.bpp
  (d.policy ≠ .blank || cost ≤ d.budget) && cost ≤ d.allowance && 41 ≤ d.allowance

/-- Step 9 (R35, R117): the lane has bandwidth for the panel's load. -/
def State.hasBandwidth (s : State) (d : Descriptor) : Bool :=
  (s.lane d.lane).committed + d.load ≤ (s.lane d.lane).periodicCapacity

/-- Step 5: a bound panel has the same lane and the same select (R33). -/
def State.selectTaken (s : State) (l : LaneId) (select : Nat) : Bool :=
  allPanels.any fun q => (s.panel q).bound && (s.panel q).desc.lane = l && (s.panel q).desc.select.val = select

/-- BIND's steps 3 to 9, the first that fails giving the result (R33). -/
def State.bindCheck (s : State) (d : RawDescriptor) : Except Result Descriptor :=
  if hl : d.lane < 4 then
    let l : LaneId := ⟨d.lane, hl⟩
    if !(s.lane l).isSetUp then .error .noLane
    else if hp : d.profile < 4 then
      let slot : ProfileId := ⟨d.profile, hp⟩
      let pf := s.profile slot
      if !pf.valid then .error .noProfile
      else if s.selectTaken l d.select then .error .selectInUse
      else if !d.geometry pf then .error .badGeometry
      else match d.typed l slot with
        | none => .error .badField
        | some desc =>
          if !desc.budgetsOk pf then .error .badBudget
          else if !s.hasBandwidth desc then .error .noBandwidth
          else .ok desc
    else .error .noProfile
  else .error .noLane

/-- The record a slot starts from when BIND completes with OK (R36, R111). -/
def Panel.bindTo (d : Descriptor) (pin : Bool) : Panel :=
  { Panel.reset pin with
    state := .ready
    desc := d
    profile := d.profile
    cursor := .nextKnown d.chainStart
    credit := d.allowance
    tear := { Channel.reset pin with
      edge := d.edge
      filter := d.filter
      skip := d.skip
      armed := 0 < d.teWatch } }

/-- BIND completes with OK: the slot starts READY and its load joins the lane's committed load (R36, R117). -/
def State.bindOk (s : State) (p : PanelId) (d : Descriptor) : State :=
  ((s.setPanel p (.bindTo d (s.tePin p))).modLane d.lane
    fun ln => { ln with committed := ln.committed + d.load }).complete .ok

/-- BIND's checks on the descriptor read, and the bind (R33, R36). -/
def finishDescriptor (kind : RecordKind) (bs : Option (List Byte)) (s : State) : State :=
  match kind, bs with
  | .descriptor p, some bs =>
    match s.bindCheck (parseDescriptor bs) with
    | .ok d => (s.bindOk p d).recompute
    | .error res => (s.complete res).recompute
  | _, _ => (s.complete .busError).recompute

/-- DESCRIPTOR_READ_ANSWERED (R33). -/
def execDescriptorReadAnswered (off : Nat) (resp : ReadResp) (s : State) : Host.Outcome State Fault Refusal :=
  s.answerControl RecordKind.isDescriptor off resp finishDescriptor

/-! ### REPORT (R44) -/

/-- REPORT completes with OK, or BUS_ERROR on an ERROR response (R44). -/
def State.reportAnswered (s : State) (resp : WriteResp) : State :=
  match s.ctl.op, resp with
  | .reporting, .ok => s.complete .ok
  | .reporting, .error => s.complete .busError
  | _, _ => s

/-- REPORT_WRITE_ANSWERED (R44). -/
def execReportWriteAnswered (resp : WriteResp) (s : State) : Host.Outcome State Fault Refusal :=
  s.answerWrite (· == .report) fun _ s =>
    if s.part = .resetting then s else (s.reportAnswered resp).recompute

end Sys2Proof.Machine
end

