-- ==== Sys2Proof/Machine/Requests.lean ====
section
/-! DEFINITION. The control requests: acceptance, checks and what each starts (R31 to R44, R109, R114, R152, R162, R171,
R172). -/
namespace Sys2Proof.Machine

/-! ### Acceptance (R171) -/

/-- What a request does once it is accepted: target, captured CTL_ARG, state. -/
abbrev Start := Byte → Word → State → State

/-- A write of CTL_REQUEST: ignored while RESETTING, dropped with CTL_OVERRUN while BUSY, else accepted (R171). -/
def State.request (s : State) (code target : Byte) (start : Start) : State :=
  if s.part = .resetting then s
  else if s.ctl.resState = .busy then s.setCtl { s.ctl with overrun := true }
  else
    start target s.ctl.arg (s.setCtl { s.ctl with
      code := code
      target := target
      done := false
      resState := .busy
      result := .ok
      op := .none
      busErr := false })

/-- The target panel, or BAD_FIELD (R32). -/
def State.withPanel (s : State) (target : Byte) (k : PanelId → State) : State :=
  if h : target.toNat < 16 then k ⟨target.toNat, h⟩ else s.complete .badField

/-- The control read of a record begins (R157). -/
def State.beginRead (s : State) (kind : RecordKind) (addr : Word) : State :=
  ((s.takeControlRead kind addr).setOp (.reading kind kind.size [] false)).recompute

/-! ### Requests that read a record -/

/-- LOAD_PROFILE's checks 1 to 3 (R31). -/
def startLoadProfile : Start := fun target arg s =>
  if h : target.toNat < 4 then
    let slot : ProfileId := ⟨target.toNat, h⟩
    if allPanels.any fun p => (s.panel p).bound && (s.panel p).profile = slot then s.complete .inUse
    else if !alignedAddr 4 arg then s.complete .badField
    else s.beginRead (.profile slot) arg
  else s.complete .badField

/-- SET_LANE's checks 1 to 3 (R114). -/
def startSetLane : Start := fun target arg s =>
  if h : target.toNat < 4 then
    let l : LaneId := ⟨target.toNat, h⟩
    if allPanels.any fun p => (s.panel p).bound && (s.panel p).desc.lane = l then s.complete .inUse
    else if !alignedAddr 4 arg then s.complete .badField
    else s.beginRead (.laneRecord l) arg
  else s.complete .badField

/-- SET_TOLERANCE's check 1 (R162); the target is not used. -/
def startSetTolerance : Start := fun _ arg s =>
  if !alignedAddr 4 arg then s.complete .badField else s.beginRead .tolerance arg

/-- BIND's step 1 and the address check of step 2 (R33). -/
def startBind : Start := fun target arg s => s.withPanel target fun p =>
  if (s.panel p).bound then s.complete .inUse
  else if !alignedAddr 4 arg then s.complete .badField
  else s.beginRead (.descriptor p) arg

/-! ### Requests on a panel -/

/-- UNBIND taken: unbind pending is set and a transaction in flight is aborted (R37). -/
def State.beginUnbind (s : State) (p : PanelId) : State :=
  (((s.modPanel p fun r => { r with unbindPending := true }).setOp (.unbindWait p)).abortPanel p .unbind).commit

/-- UNBIND (R32, R37). -/
def startUnbind : Start := fun target _ s => s.withPanel target fun p =>
  if (s.panel p).bound then s.beginUnbind p else s.complete .notBound

/-- PARK taken: the continuation flag becomes invalid, and the panel is PARKED at once, or PARKING with park wait 16 while
a transaction is in flight (R39). -/
def State.beginPark (s : State) (p : PanelId) : State :=
  if s.inFlight p then
    ((s.modPanel p fun r => { r with cont := false, state := .parking, parkWait := 16 }).setOp (.parkWait p)).recompute
  else
    ((s.modPanel p fun r => { r with cont := false, state := .parked }).complete .ok).recompute

/-- PARK (R32, R39). -/
def startPark : Start := fun target _ s => s.withPanel target fun p =>
  match (s.panel p).state with
  | .unbound => s.complete .notBound
  | .ready => s.beginPark p
  | .parking | .parked | .halted => s.complete .badState

/-- RESUME's effect on the chain: with the access IDLE a watching cursor is polled, with one under way the poll is asked
for when it ends (R17). -/
def State.resumeChain (s : State) (p : PanelId) : State :=
  let r := s.panel p
  if r.access ≠ .idle then s.setPanel p { r with resumePoll := true }
  else if r.cursor.watching then s.pollOrMark p
  else s

/-- RESUME taken (R42). -/
def State.beginResume (s : State) (p : PanelId) : State :=
  (((s.modPanel p fun r => { r with fault := .none, state := .ready }).resumeChain p).complete .ok).commit

/-- RESUME (R32, R42). -/
def startResume : Start := fun target _ s => s.withPanel target fun p =>
  match (s.panel p).state with
  | .unbound => s.complete .notBound
  | .ready | .parking => s.complete .badState
  | .parked | .halted => s.beginResume p

/-- REWIND taken: a transaction in flight is aborted, and the waits begin (R43). Its closing recomputes the level even where
nothing under way and no ticket changes (log 33). -/
def State.beginRewind (s : State) (p : PanelId) (addr : Word) : State :=
  ((s.setOp (.rewindWait p addr)).abortPanel p .rewind).commit

/-- REWIND (R32, R43). -/
def startRewind : Start := fun target arg s => s.withPanel target fun p =>
  match (s.panel p).state with
  | .unbound => s.complete .notBound
  | .ready | .parking => s.complete .badState
  | .parked | .halted => if alignedAddr 64 arg then s.beginRewind p arg else s.complete .badField

/-- REPORT: a snapshot of the panel's state, written as a report record (R44). -/
def startReport : Start := fun target arg s => s.withPanel target fun p =>
  if alignedAddr 64 arg then
    let r := s.panel p
    ((s.takeWrite { kind := .report, addr := arg, data := reportBytes r r.rowsDone }).setOp .reporting).recompute
  else s.complete .badField

/-- RETUNE_TE taken: the channel's settings are replaced, the conditioner takes the pin, and the channel enters UNTRACKED
(R109). -/
def State.retune (s : State) (p : PanelId) (edge : TeEdge) (filter : TeFilter) (skip : Nat) : State :=
  s.modPanel p fun r => { r with
    tear := (({ r.tear with edge := edge, filter := filter, skip := skip }).takeLevel (s.tePin p)).enterUntracked
      (0 < r.desc.teWatch) }

/-- RETUNE_TE (R32, R109, R172). -/
def startRetuneTe : Start := fun target arg s => s.withPanel target fun p =>
  if !(s.panel p).bound then s.complete .notBound
  else
    let skip := (arg.extractLsb' 8 3).toNat
    match edgeOf (arg.extractLsb' 0 2).toNat, filterOf (arg.extractLsb' 4 2).toNat with
    | some e, some f =>
      if 1 ≤ skip ∧ skip ≤ 4 then ((s.retune p e f skip).complete .ok).recompute else s.complete .badField
    | _, _ => s.complete .badField

/-- BREAK_GATE (R152). -/
def startBreakGate : Start := fun target _ s =>
  if h : target.toNat < 8 then
    let g : GateId := ⟨target.toNat, h⟩
    if (s.gate g).armed then ((s.breakGate g .request fun _ => true).setOp (.breakWrites g)).commit
    else s.complete .notArmed
  else s.complete .badField

/-- A code not in the table completes at once with BAD_REQUEST (R172). -/
def startBadRequest : Start := fun _ _ s => s.complete .badRequest

/-- The request of a code (R172). -/
def startOf (code : Byte) : Start :=
  match code.toNat with
  | 0x01 => startLoadProfile
  | 0x02 => startSetLane
  | 0x03 => startSetTolerance
  | 0x10 => startBind
  | 0x11 => startUnbind
  | 0x12 => startPark
  | 0x13 => startResume
  | 0x14 => startRewind
  | 0x15 => startReport
  | 0x16 => startRetuneTe
  | 0x20 => startBreakGate
  | _ => startBadRequest

/-! ### The commands -/

/-- LOAD_PROFILE (R31). -/
def execLoadProfile (target : Byte) (s : State) : Host.Outcome State Fault Refusal :=
  .next (s.request 0x01 target startLoadProfile)

/-- SET_LANE (R114). -/
def execSetLane (target : Byte) (s : State) : Host.Outcome State Fault Refusal :=
  .next (s.request 0x02 target startSetLane)

/-- SET_TOLERANCE (R162). -/
def execSetTolerance (target : Byte) (s : State) : Host.Outcome State Fault Refusal :=
  .next (s.request 0x03 target startSetTolerance)

/-- BIND (R33). -/
def execBind (target : Byte) (s : State) : Host.Outcome State Fault Refusal :=
  .next (s.request 0x10 target startBind)

/-- UNBIND (R37). -/
def execUnbind (target : Byte) (s : State) : Host.Outcome State Fault Refusal :=
  .next (s.request 0x11 target startUnbind)

/-- PARK (R39). -/
def execPark (target : Byte) (s : State) : Host.Outcome State Fault Refusal :=
  .next (s.request 0x12 target startPark)

/-- RESUME (R42). -/
def execResume (target : Byte) (s : State) : Host.Outcome State Fault Refusal :=
  .next (s.request 0x13 target startResume)

/-- REWIND (R43). -/
def execRewind (target : Byte) (s : State) : Host.Outcome State Fault Refusal :=
  .next (s.request 0x14 target startRewind)

/-- REPORT (R44). -/
def execReport (target : Byte) (s : State) : Host.Outcome State Fault Refusal :=
  .next (s.request 0x15 target startReport)

/-- RETUNE_TE (R109). -/
def execRetuneTe (target : Byte) (s : State) : Host.Outcome State Fault Refusal :=
  .next (s.request 0x16 target startRetuneTe)

/-- BREAK_GATE (R152). -/
def execBreakGate (target : Byte) (s : State) : Host.Outcome State Fault Refusal :=
  .next (s.request 0x20 target startBreakGate)

/-- BAD_REQUEST (R172). -/
def execBadRequest (code target : Byte) (s : State) : Host.Outcome State Fault Refusal :=
  .next (s.request code target (startOf code))

end Sys2Proof.Machine
end

