-- ==== Sys2Proof/Machine/RegisterWrites.lean ====
section
/-! DEFINITION. The register writes: NUDGE, the write-1-to-clear masks and flags, IRQ_LEVELS, and a write of any register
as a whole word (R16, R168, R174, R175). -/
namespace Sys2Proof.Machine

/-! ### NUDGE (R16) -/

/-- The named panels whose link poll a nudge issues at once. -/
def State.nudgePolls (s : State) (m : Half) : List PanelId :=
  allPanels.filter fun p =>
    hasPanel m p && (s.panel p).chainIdle && (s.panel p).cursor.watching && s.part = .running

/-- The named panels whose repoll mark a nudge sets. -/
def State.nudgeMarks (s : State) (m : Half) : List PanelId :=
  allPanels.filter fun p =>
    hasPanel m p && (s.panel p).active && (s.panel p).cursor.watching &&
      ((s.panel p).access = .polling || ((s.panel p).access = .idle && s.part = .stopped))

/-- A write of NUDGE; ignored while RESETTING (R16, R168). -/
def State.nudge (s : State) (m : Half) : State :=
  if s.part = .resetting then s
  else
    let polls := s.nudgePolls m
    let marked := (s.nudgeMarks m).foldl (fun s p => s.modPanel p fun r => { r with repoll := true }) s
    if polls.isEmpty then marked else (marked.issuePolls polls).recompute

/-! ### A write of a whole register (R168) -/

/-- What a write of a register does. Read-only registers and bits not named ignore it. -/
def State.busWrite (s : State) (reg : Reg) (v : Word) : State :=
  match reg with
  | .ident | .period | .ctlResult => s
  | .partControl =>
    let units := v.extractLsb' 8 6
    let tolEnable := v.getLsbD 16
    if v.getLsbD 1 then s.softReset units tolEnable else s.writePartControl (v.getLsbD 0) units tolEnable
  | .partStatus => if v.getLsbD 5 then s.clearOverrun else s
  | .ctlArg => s.setCtl { s.ctl with arg := v }
  | .ctlRequest => s.request (v.extractLsb' 0 8) (v.extractLsb' 8 8) (startOf (v.extractLsb' 0 8))
  | .nudge => s.nudge (v.extractLsb' 0 16)
  | .notify => s.clearNotify (v.extractLsb' 0 16)
  | .fault => s.clearFault (v.extractLsb' 0 16)
  | .irqLevels => s.setLevels (v.extractLsb' 0 8)
  | .irqStatus =>
    let s := if v.getLsbD 0 then s.clearDone else s
    if v.getLsbD 3 then s.clearOverrun else s

/-- What a write at an offset of the window does, where a register stands there. -/
def State.writeAt (s : State) (offset : Nat) (v : Word) : Option State := (regAt offset).map fun r => s.busWrite r v

/-! ### The commands -/

/-- NUDGE (R16). -/
def execNudge (panels : Half) (s : State) : Host.Outcome State Fault Refusal := .next (s.nudge panels)

/-- NOTIFY_CLEAR (R174). -/
def execNotifyClear (bits : Half) (s : State) : Host.Outcome State Fault Refusal := .next (s.clearNotify bits)

/-- FAULT_CLEAR (R174). -/
def execFaultClear (bits : Half) (s : State) : Host.Outcome State Fault Refusal := .next (s.clearFault bits)

/-- CTL_DONE_CLEAR (R175). -/
def execCtlDoneClear (s : State) : Host.Outcome State Fault Refusal := .next s.clearDone

/-- CTL_OVERRUN_CLEAR (R175): the same through PART_STATUS and through the OVERRUN summary of IRQ_STATUS. -/
def execCtlOverrunClear (viaIrqStatus : Bool) (s : State) : Host.Outcome State Fault Refusal :=
  .next (if viaIrqStatus then s.busWrite .irqStatus 8 else s.busWrite .partStatus 32)

/-- IRQ_LEVELS_WRITE (R175). -/
def execIrqLevelsWrite (levels : Byte) (s : State) : Host.Outcome State Fault Refusal := .next (s.setLevels levels)

/-- REGISTER_WRITE (R168). -/
def execRegisterWrite (reg : Reg) (value : Word) (s : State) : Host.Outcome State Fault Refusal :=
  .next (s.busWrite reg value)

end Sys2Proof.Machine
end

