-- ==== Sys2Proof/Machine/TimeEvents.lean ====
section
/-! DEFINITION. The period boundary and the events a boundary brings about (R15, R40, R41, R64, R72, R99, R102, R113, R118,
R120, R150). -/
namespace Sys2Proof.Machine

/-! ### PERIOD_BOUNDARY (R113) -/

/-- A boundary is a due boundary of the panel (R29, R113). -/
def Panel.isDue (r : Panel) (p : PanelId) (count : Word) : Bool :=
  count.toNat % r.desc.interval = p.val % r.desc.interval

/-- The entry's latest period is passed, for an unstarted DRAW or FILL with DEADLINE (R72). -/
def Entry.passed (e : Entry) (started : Bool) (count : Word) : Bool :=
  match e.ticket.latest with
  | none => false
  | some latest => e.ticket.body.isImage && !started && passes count latest

/-- The window as a boundary examines it for expiry: only the head can be started (R72, log 13). -/
def markDue (started : Bool) (count : Word) : List Entry → List Entry
  | [] => []
  | e :: rest =>
    { e with due := e.passed started count } :: rest.map fun e => { e with due := e.passed false count }

/-- A bound panel's record at a boundary: credit refill at a due boundary (R118), park wait (R40), settle counter (R64),
hold and watch (R99, R102), expiry (R72). -/
def Panel.boundary (r : Panel) (p : PanelId) (count : Word) : Panel :=
  if !r.bound then r
  else { r with
    credit := if r.isDue p count then r.desc.allowance else r.credit
    parkWait := if r.state = .parking then r.parkWait - 1 else r.parkWait
    settle := if r.display.settling then r.settle - 1 else r.settle
    tear := r.tear.boundary r.desc (r.display = .awake)
    window := markDue r.head.started count r.window
    repoll := r.repoll || (r.isDue p count && r.active && r.cursor.watching && r.access = .polling) }

/-- The panels whose chain the boundary polls (R15). -/
def State.duePolls (s : State) : List PanelId :=
  allPanels.filter fun p =>
    (s.panel p).isDue p s.timer.count && (s.panel p).chainIdle && (s.panel p).cursor.watching

/-- A lane at a boundary: the reserve credit of a lane that is set up becomes its reserve size (R120). -/
def Lane.boundary (ln : Lane) : Lane := if ln.isSetUp then { ln with reserveCredit := ln.reserveSize } else ln

/-- A gate entry at a boundary: the timeout of an ARMED entry counts down (R150). -/
def Gate.boundary (e : Gate) : Gate := if e.armed then { e with timeout := e.timeout.map (· - 1) } else e

/-- The period in progress reaches its length: the count goes up and the next period begins (R112, R113). -/
def Timer.boundary (t : Timer) (units : BitVec 6) : Timer :=
  { count := t.count + 1, period := some (periodLength units, 0) }

/-- What every block does at the boundary itself; what a counter's reaching its end brings about is an event of its own
(log 14), and the level is recomputed before it (the model's choice, log 37). -/
def State.boundary (s : State) : State :=
  let s := s.setTimer (s.timer.boundary s.ctl.units)
  let polls := s.duePolls
  let s := allPanels.foldl (fun s p => s.modPanel p fun r => r.boundary p s.timer.count) s
  let s := allLanes.foldl (fun s l => s.modLane l Lane.boundary) s
  let s := allGates.foldl (fun s g => s.setGate g (s.gate g).boundary) s
  (s.issuePolls polls).recompute

/-- PERIOD_BOUNDARY (R113): boundaries occur only while RUNNING, when the period in progress reaches its length. -/
def execPeriodBoundary (s : State) : Host.Outcome State Fault Refusal :=
  .next (if s.part = .running && s.timer.ending then s.boundary else s)

/-! ### What a boundary brings about -/

/-- The park wait of a PARKING panel has run out (R40). -/
def State.parkRunsOut (s : State) (p : PanelId) : Bool :=
  s.ctl.op = .parkWait p && (s.panel p).state = .parking && (s.panel p).parkWait = 0 && s.part ≠ .resetting

/-- The abort of a forced park (R41). In ENDING it comes too late (R134, R139), but where the boundary that brought the park
wait to 0 falls together with the completion and is taken first, the transaction is cut there (R40, log 36). -/
def State.forcePark (s : State) (w : WaitEnd) : State :=
  let l := (s.panel w.panel).desc.lane
  if w.together && s.inFlight w.panel && (s.lane l).link = .ending then s.cutNow l .forcedPark
  else s.abortPanel w.panel .forcedPark

/-- FORCED_PARK (R41): the lane unit is told to abort. -/
def execForcedPark (w : WaitEnd) (s : State) : Host.Outcome State Fault Refusal :=
  .next (if s.parkRunsOut w.panel then ((s.setOp (.parkForced w.panel)).forcePark w).commit else s)

/-- The settle counter of a bound panel has reached 0 (R64). -/
def State.settleDue (s : State) (p : PanelId) : Bool :=
  let r := s.panel p
  r.bound && r.display.settling && r.settle = 0 && s.part ≠ .resetting

/-- SETTLE_END (R64). -/
def execSettleEnd (p : PanelId) (s : State) : Host.Outcome State Fault Refusal :=
  .next (if s.settleDue p then (s.endSettle p).commit else s)

/-- EXPIRED with detail 0, for a marked entry that is not the started head (R72, R73). -/
def expires (started : Bool) (i : Nat) (e : Entry) : Option Final :=
  if e.due && !(started && i = 0) then some { state := .expired, reason := .none, detail := 0 } else none

/-- A ticket of a bound panel expires (R72). -/
def State.expiryDue (s : State) (p : PanelId) : Bool :=
  let r := s.panel p
  r.bound && s.part ≠ .resetting && !(splitEnds (expires r.head.started) 0 r.window).1.isEmpty

/-- EXPIRY (R72): every marked ticket of the window, in chain order. -/
def execExpiry (p : PanelId) (s : State) : Host.Outcome State Fault Refusal :=
  .next (if s.expiryDue p then (s.endTickets p (expires (s.panel p).head.started) false).commit else s)

/-- The hold counter of an OPEN channel has reached 0 (R99), and no meeting keeps its window open up to the next
boundary (R100, log 31). -/
def State.holdDue (s : State) (p : PanelId) : Bool :=
  let r := s.panel p
  r.bound && r.tear.state = .opened && r.tear.hold = 0 && r.tear.meeting = .none && s.part ≠ .resetting

/-- HOLD_EXPIRY (R99): the write window closes. -/
def execHoldExpiry (p : PanelId) (s : State) : Host.Outcome State Fault Refusal :=
  .next (if s.holdDue p then (s.modPanel p fun r => { r with tear := r.tear.close }).recompute else s)

/-- The armed watch of an AWAKE panel under policy BLANK has reached the TE watch value (R102). -/
def State.watchDue (s : State) (p : PanelId) : Bool :=
  let r := s.panel p
  r.bound && r.tear.armed && r.desc.policy = .blank && r.display = .awake && r.desc.teWatch ≤ r.tear.watch &&
    s.part ≠ .resetting

/-- TE_LOST (R102): the channel enters UNTRACKED with its watch cleared, fault code and FAULT bit are set, the panel state
stays. -/
def execTeLost (p : PanelId) (s : State) : Host.Outcome State Fault Refusal :=
  .next (if s.watchDue p then
    ((s.modPanel p fun r => { r with tear := r.tear.enterUntracked false, fault := .teLost }).setFaultBit p).recompute
  else s)

/-- GATE_TIMEOUT (R150): every ARMED entry whose timeout has run out breaks, in ascending order. -/
def execGateTimeout (s : State) : Host.Outcome State Fault Refusal :=
  .next (if s.part ≠ .resetting && allGates.any fun g => (s.gate g).timedOut then
    (s.breakGates Gate.timedOut .timeout fun _ => false).commit
  else s)

end Sys2Proof.Machine
end

