-- ==== Sys2Proof/Machine/Dispatch.lean ====
section
/-! DEFINITION. One arm per command, each a direct call of its meaning. -/
namespace Sys2Proof.Machine

def exec (i : Instr) (s : State) : Host.Outcome State Fault Refusal :=
  match i with
  | .pinReset => Sys2Proof.Machine.execPinReset s
  | .softReset units tolEnable => Sys2Proof.Machine.execSoftReset units tolEnable s
  | .drainComplete => Sys2Proof.Machine.execDrainComplete s
  | .runStart units tolEnable => Sys2Proof.Machine.execRunStart units tolEnable s
  | .runStop units tolEnable => Sys2Proof.Machine.execRunStop units tolEnable s
  | .periodUnitsWrite units => Sys2Proof.Machine.execPeriodUnitsWrite units s
  | .tolEnableWrite tolEnable => Sys2Proof.Machine.execTolEnableWrite tolEnable s
  | .nudge panels => Sys2Proof.Machine.execNudge panels s
  | .notifyClear bits => Sys2Proof.Machine.execNotifyClear bits s
  | .faultClear bits => Sys2Proof.Machine.execFaultClear bits s
  | .ctlDoneClear => Sys2Proof.Machine.execCtlDoneClear s
  | .ctlOverrunClear viaIrqStatus => Sys2Proof.Machine.execCtlOverrunClear viaIrqStatus s
  | .irqLevelsWrite levels => Sys2Proof.Machine.execIrqLevelsWrite levels s
  | .registerWrite reg value => Sys2Proof.Machine.execRegisterWrite reg value s
  | .loadProfile target => Sys2Proof.Machine.execLoadProfile target s
  | .setLane target => Sys2Proof.Machine.execSetLane target s
  | .setTolerance target => Sys2Proof.Machine.execSetTolerance target s
  | .bind target => Sys2Proof.Machine.execBind target s
  | .unbind target => Sys2Proof.Machine.execUnbind target s
  | .park target => Sys2Proof.Machine.execPark target s
  | .resume target => Sys2Proof.Machine.execResume target s
  | .rewind target => Sys2Proof.Machine.execRewind target s
  | .report target => Sys2Proof.Machine.execReport target s
  | .retuneTe target => Sys2Proof.Machine.execRetuneTe target s
  | .breakGate target => Sys2Proof.Machine.execBreakGate target s
  | .badRequest code target => Sys2Proof.Machine.execBadRequest code target s
  | .qualifiedEdge p edge => Sys2Proof.Machine.execQualifiedEdge p edge s
  | .throttleHigh => Sys2Proof.Machine.execThrottleHigh s
  | .throttleLow => Sys2Proof.Machine.execThrottleLow s
  | .tolAccept => Sys2Proof.Machine.execTolAccept s
  | .periodBoundary => Sys2Proof.Machine.execPeriodBoundary s
  | .forcedPark w => Sys2Proof.Machine.execForcedPark w s
  | .settleEnd p => Sys2Proof.Machine.execSettleEnd p s
  | .expiry p => Sys2Proof.Machine.execExpiry p s
  | .holdExpiry p => Sys2Proof.Machine.execHoldExpiry p s
  | .teLost p => Sys2Proof.Machine.execTeLost p s
  | .gateTimeout => Sys2Proof.Machine.execGateTimeout s
  | .ticketFetch p => Sys2Proof.Machine.execTicketFetch p s
  | .memoryRequestSent => Sys2Proof.Machine.execMemoryRequestSent s
  | .ticketReadAnswered p resp => Sys2Proof.Machine.execTicketReadAnswered p resp s
  | .takenWriteAnswered resp => Sys2Proof.Machine.execTakenWriteAnswered resp s
  | .linkPollAnswered p resp => Sys2Proof.Machine.execLinkPollAnswered p resp s
  | .laneGrant l => Sys2Proof.Machine.execLaneGrant l s
  | .byteTimeEnd l ldi => Sys2Proof.Machine.execByteTimeEnd l ldi s
  | .pixelFetchAnswered l buf offset resp => Sys2Proof.Machine.execPixelFetchAnswered l buf offset resp s
  | .transactionCompletion l => Sys2Proof.Machine.execTransactionCompletion l s
  | .gapAfterAbortEnd l => Sys2Proof.Machine.execGapAfterAbortEnd l s
  | .statusWriteAnswered resp => Sys2Proof.Machine.execStatusWriteAnswered resp s
  | .replyWriteAnswered resp => Sys2Proof.Machine.execReplyWriteAnswered resp s
  | .profileReadAnswered offset resp => Sys2Proof.Machine.execProfileReadAnswered offset resp s
  | .laneRecordReadAnswered offset resp => Sys2Proof.Machine.execLaneRecordReadAnswered offset resp s
  | .toleranceReadAnswered offset resp => Sys2Proof.Machine.execToleranceReadAnswered offset resp s
  | .descriptorReadAnswered offset resp => Sys2Proof.Machine.execDescriptorReadAnswered offset resp s
  | .reportWriteAnswered resp => Sys2Proof.Machine.execReportWriteAnswered resp s
  | .teFilterSample levels => Sys2Proof.Machine.execTeFilterSample levels s
  | .tolAcceptLow => Sys2Proof.Machine.execTolAcceptLow s

end Sys2Proof.Machine
end

