-- ==== Sys2Proof/Machine/Idle.lean ====
section
/-! DEFINITION. What a step does on an empty queue: one unit of the period in progress (R112, log 2). -/
namespace Sys2Proof.Machine

/-- One unit of 125 µs of the period in progress elapses, short of its end: reaching the length is PERIOD_BOUNDARY
(R112, R113). With no period in progress nothing changes. DESIGN CHOICE, log 2. -/
def Timer.tick (t : Timer) : Timer :=
  match t.period with
  | none => t
  | some (len, progress) => { t with period := some (len, if progress + 1 < len then progress + 1 else progress) }

/-- The idle step. -/
def State.idleTick (s : State) : State := s.setTimer s.timer.tick

end Sys2Proof.Machine
end

