-- ==== Sys2Proof/Safety.lean ====
section
/-! DEFINITION. What counts as a safe run of the part, the invariants its claims use, and the vocabulary in which the
claims are stated. -/
namespace Sys2Proof.Machine

/-! ### Invariants -/

/-- At most 8 reads and at most 4 writes are outstanding (R156). -/
abbrev State.BusOk (s : State) : Prop := s.port.outReads.length ≤ 8 ∧ s.port.outWrites.length ≤ 4

/-- A panel's credit is at most its allowance and its budget at most the window budget (R118). -/
abbrev Panel.AccountsOk (r : Panel) : Prop := r.credit ≤ r.desc.allowance ∧ r.tear.budget ≤ r.desc.budget

/-- Every account lies within its bound: the panels' credits and budgets, the lanes' reserve credits (R118). -/
abbrev State.AccountsOk (s : State) : Prop :=
  (∀ p : PanelId, (s.panel p).AccountsOk) ∧ ∀ l : LaneId, (s.lane l).reserveCredit ≤ (s.lane l).reserveSize

/-- A gate entry is ARMED exactly when its arrival list is non-empty, its list holds only members of its mask, and a FREE
entry holds nothing (R143). -/
abbrev Gate.Ok (e : Gate) : Prop :=
  (e.armed = true ↔ e.list ≠ []) ∧ (∀ p ∈ e.list, hasPanel e.mask p = true) ∧ (e.armed = false → e = Gate.free)

/-- Every gate entry is in order (R143). -/
abbrev State.GatesOk (s : State) : Prop := ∀ g : GateId, (s.gate g).Ok

/-- The gate and the member mask that a GATE ticket names (R3). -/
def Body.gate? : Body → Option (GateId × Half)
  | .gate g mask _ => some (g, mask)
  | _ => none

/-- A panel is listed at most once and in one list only, the one its gate arrival field names; a listed panel is bound, and
its head is a started GATE ticket for that entry under the entry's mask (R143, R144). -/
abbrev State.ArrivalsOk (s : State) : Prop :=
  (∀ g : GateId, (s.gate g).list.Nodup) ∧
  ∀ (p : PanelId) (g : GateId),
    let r := s.panel p
    (r.gateAt = some g ↔ p ∈ (s.gate g).list) ∧
    (r.gateAt = some g → r.bound = true ∧ r.head.started = true ∧
      r.window.head?.bind (·.ticket.body.gate?) = some (g, (s.gate g).mask))

/-- A transaction in flight is on the lane of its panel, which is bound and not settling, and its head is started and no GATE
(R48, R64, R65, R131). -/
abbrev State.FlightsOk (s : State) : Prop :=
  ∀ (l : LaneId), ∀ tx ∈ (s.lane l).tx,
    let r := s.panel tx.panel
    r.bound = true ∧ r.desc.lane = l ∧ r.display.settling = false ∧ r.head.started = true ∧
      r.window.head?.map (·.ticket.body.isGate) = some false

/-- A select of a lane is driven low exactly while a transaction is in flight whose select is not deasserted yet (R129,
R134). -/
abbrev Lane.SelectOk (ln : Lane) : Prop :=
  ln.sel.isSome = true ↔ ln.link = .shifting ∨ ln.link = .stalled ∨ ln.link = .aborting

/-- Every lane's selects are in order. -/
abbrev State.SelectsOk (s : State) : Prop := ∀ l : LaneId, (s.lane l).SelectOk

/-- A period is in progress exactly while the part is RUNNING (R113). -/
abbrev State.PeriodOk (s : State) : Prop := s.timer.period.isSome = true ↔ s.part = .running

/-- The pending slot of the tolerance port holds a value only behind a message in flight (R165). -/
abbrev State.SlotOk (s : State) : Prop := s.tol.slot.isSome = true → s.tol.inFlight.isSome = true

/-- The control port is BUSY while a request is in progress (R171). -/
abbrev State.RequestOk (s : State) : Prop := s.ctl.op ≠ .none → s.ctl.resState = .busy

/-- The PARK of p is in progress. -/
abbrev ReqOp.parks (op : ReqOp) (p : PanelId) : Prop := op = .parkWait p ∨ op = .parkForced p

/-- A panel is in PARKING only while its PARK request is in progress (02, 2.2), outside RESETTING. -/
abbrev State.ParkingOk (s : State) : Prop :=
  s.RequestOk ∧ (s.part ≠ .resetting → ∀ p : PanelId, (s.panel p).state = .parking → s.ctl.op.parks p)

/-- The sum of the loads of the panels bound on a lane (R117). -/
def State.loadSum (s : State) (l : LaneId) : Nat :=
  (allPanels.map fun p => if (s.panel p).bound && (s.panel p).desc.lane = l then (s.panel p).desc.load else 0).sum

/-- The target of the request in progress is as the request found it: a lane being set up has no panel bound on it, a slot
being bound is UNBOUND, a panel that UNBIND or REWIND waits for is bound until UNBIND makes it UNBOUND (R33, R37, R43,
R114). -/
def State.TargetsOk (s : State) : Prop :=
  match s.ctl.op with
  | .reading (.laneRecord l) _ _ _ => ∀ p : PanelId, (s.panel p).bound = true → (s.panel p).desc.lane ≠ l
  | .reading (.descriptor p) _ _ _ => (s.panel p).bound = false
  | .unbindWait p => (s.panel p).bound = true
  | .unbindWrites p => (s.panel p).bound = false
  | .rewindWait p _ => (s.panel p).bound = true
  | _ => True

/-- Each lane's committed load is the sum of the loads of the panels bound on it, and within its periodic capacity
(R117). -/
def State.LoadsOk (s : State) : Prop :=
  s.RequestOk ∧ s.TargetsOk ∧
    ∀ l : LaneId, (s.lane l).committed = s.loadSum l ∧ s.loadSum l ≤ (s.lane l).periodicCapacity

/-- A step that does not stop: every command but an answer the bus contract rules out takes one. -/
def SafeStep (s : State) : Prop := ∃ t, step s = .next t

/-! ### Values after a reset -/

/-- A panel record with the values of R45, R7, R84, R111, R118 and R144, for a level of the slot's TE pin. -/
structure Panel.Cleared (r : Panel) (pin : Bool) : Prop where
  state : r.state = .unbound
  desc : r.desc = .zero
  profile : r.profile = 0
  unbindPending : r.unbindPending = false
  parkWait : r.parkWait = 0
  cursor : r.cursor = .nextKnown 0
  access : r.access = .idle
  fetched : r.fetched = none
  repoll : r.repoll = false
  window : r.window = []
  head : r.head = { started := false, piece := 0, rows := 0, offset := 0, cut := 0 }
  cont : r.cont = false
  display : r.display = .awake
  settle : r.settle = 0
  scroll : r.scroll = 0
  credit : r.credit = 0
  fault : r.fault = .none
  gateAt : r.gateAt = none
  settings : r.tear.edge = .rising ∧ r.tear.filter = .none ∧ r.tear.skip = 1
  conditioner : r.tear.qualified = pin ∧ r.tear.run = 0
  tear : r.tear.state = .untracked ∧ r.tear.budget = 0 ∧ r.tear.hold = 0 ∧ r.tear.skipCtr = 0
  watch : r.tear.watch = 0 ∧ r.tear.armed = false
  estimate : r.tear.estimate = 0 ∧ r.tear.base = false ∧ r.tear.lastTe = 0
  meeting : r.tear.meeting = .none

/-- A lane with the reset values of R142, and of R116 but for the setup record. -/
structure Lane.Cleared (ln : Lane) : Prop where
  link : ln.link = .idle
  selects : ln.sel = none
  clock : ln.lclk = false
  ldo : ln.ldo = .driven false
  ldc : ln.ldc = true
  stages : ln.shift = none ∧ ln.stage = none
  buffers : ln.bufA = .free ∧ ln.bufB = .free
  reply : ln.reply = []
  tx : ln.tx = none
  reserveCredit : ln.reserveCredit = 0
  lastSelect : ln.lastSelect = 3
  committed : ln.committed = 0

/-- A gate entry with the values of R155. -/
structure Gate.Cleared (e : Gate) : Prop where
  armed : e.armed = false
  mask : e.mask = 0
  list : e.list = []
  timeout : e.timeout = none
  align : e.align = false

/-- The memory port with the values of R161. -/
structure Port.Cleared (q : Port) : Prop where
  pixels : ∀ l : LaneId, q.pixQ[l] = []
  chain : q.chainQ = []
  control : q.ctlQ = []
  writes : q.writeQ = []
  outstanding : q.outReads = [] ∧ q.outWrites = []
  lastLane : q.lastLane = 3

/-! ### PART_CONTROL writes -/

/-- The tolerance reporter after TOL_ENABLE has taken a value (R166). -/
def State.tolAfterEnable (s : State) (en : Bool) : Tolerance :=
  if en = s.ctl.tolEnable then s.tol
  else if en = true then s.tol.send (s.tol.record.message s.tol.level)
  else { s.tol with slot := none }

/-! ### The memory port -/

/-- The port holds a request that is taken and not yet sent, or a transaction that is outstanding (R161, R163). -/
abbrev Port.Holds (q : Port) : Prop :=
  (∃ l : LaneId, q.pixQ[l] ≠ []) ∨ q.chainQ ≠ [] ∨ q.ctlQ ≠ [] ∨ q.writeQ ≠ [] ∨ q.outReads ≠ [] ∨ q.outWrites ≠ []

/-! ### Control requests -/

/-- A write of CTL_REQUEST is accepted: the part is not RESETTING and no request is in progress (R171). -/
abbrev State.Accepts (s : State) : Prop := s.part ≠ .resetting ∧ s.ctl.resState ≠ .busy

/-- The request of a code and target as a command (R172). -/
def requestCommand (code target : Byte) : Instr :=
  if code = 0x01 then .loadProfile target
  else if code = 0x02 then .setLane target
  else if code = 0x03 then .setTolerance target
  else if code = 0x10 then .bind target
  else if code = 0x11 then .unbind target
  else if code = 0x12 then .park target
  else if code = 0x13 then .resume target
  else if code = 0x14 then .rewind target
  else if code = 0x15 then .report target
  else if code = 0x16 then .retuneTe target
  else if code = 0x20 then .breakGate target
  else .badRequest code target

/-- A request that completes at once with a result and changes nothing but the control port's own record of it. -/
def EndsWith (c : Instr) (s : State) (r : Result) : Prop :=
  ∃ t, exec c s = .next t ∧ t = { s with ctl := t.ctl } ∧
    t.ctl = { s.ctl with
      code := t.ctl.code, target := t.ctl.target, resState := .done, result := r, done := true, op := .none,
      busErr := false }

/-- A panel number as a request's target. -/
def targetOf (p : PanelId) : Byte := BitVec.ofNat 8 p.val

/-- The control port after it has accepted a request, before the request acts (R171). -/
def Control.accepted (c : Control) (code target : Byte) : Control :=
  { c with
    code := code, target := target, done := false, resState := .busy, result := .ok, op := .none, busErr := false }

/-- An address a chain may go to: non-zero and a multiple of 64 (R1). -/
abbrev ChainAddress (a : Word) : Prop := a ≠ 0 ∧ a.toNat % 64 = 0

/-- BIND's tests 3 to 9 on the descriptor read, in their order, each with the result of its failure (R33 to R35). -/
def bindTests (s : State) (d : RawDescriptor) : List (Prop × Result) :=
  [ (∃ l : LaneId, d.lane = l.val ∧ 0 < (s.lane l).capacity, .noLane),
    (∃ i : ProfileId, d.profile = i.val ∧ (s.profile i).valid = true, .noProfile),
    (∀ q : PanelId, (s.panel q).state ≠ .unbound → (s.panel q).desc.lane.val = d.lane →
      (s.panel q).desc.select.val ≠ d.select, .selectInUse),
    ((1 ≤ d.width ∧ d.width ≤ 640 ∧ 1 ≤ d.height ∧ d.height ≤ 640) ∧
      (∀ i : ProfileId, d.profile = i.val → (s.profile i).k = 1 → d.width ≤ 256 ∧ d.height ≤ 256) ∧
      d.tfa + d.vsa + d.bfa = d.height, .badGeometry),
    (d.select ≤ 3 ∧ d.policy ≤ 1 ∧ d.edge ≤ 2 ∧ d.filter ≤ 3 ∧ d.fallback ≤ 1 ∧ (1 ≤ d.skip ∧ d.skip ≤ 4) ∧
      (1 ≤ d.hold ∧ d.hold ≤ 15) ∧ d.intervalCode ≤ 5 ∧ d.priority ≤ 1 ∧ 1 ≤ d.budget ∧ 1 ≤ d.allowance ∧
      ChainAddress d.chainStart, .badField),
    ((∀ i : ProfileId, d.profile = i.val →
        (d.policy = 1 → 3 + 4 * (s.profile i).k + d.width * (s.profile i).fmt.bpp ≤ d.budget) ∧
        3 + 4 * (s.profile i).k + d.width * (s.profile i).fmt.bpp ≤ d.allowance) ∧ 41 ≤ d.allowance, .badBudget),
    (∀ l : LaneId, d.lane = l.val →
      (s.lane l).committed + loadOf d.allowance (2 ^ d.intervalCode) ≤ (s.lane l).periodicCapacity, .noBandwidth) ]

/-! ### Tickets -/

/-- The conditions of R11, each on the bytes read. -/
abbrev MalformedTicket (bs : List Byte) : Prop :=
  (nat8 bs 4 < 1 ∨ 9 < nat8 bs 4) ∨
  (nat8 bs 4 = 4 ∧ 40 < nat8 bs 17) ∨
  (nat8 bs 4 = 5 ∧ (nat8 bs 17 = 0 ∨ 8 < nat8 bs 17)) ∨
  (nat8 bs 4 = 1 ∧ 2 < nat8 bs 30) ∨
  (nat8 bs 4 = 9 ∧ 7 < nat8 bs 16) ∨
  (ticketFlag bs 2 = true ∧ nat8 bs 4 ≠ 1 ∧ nat8 bs 4 ≠ 2) ∨
  (ticketFlag bs 3 = true ∧ nat8 bs 4 ≠ 9)

/-- The state a halting fault leaves a panel in (R26). -/
def PanelState.afterHalt : PanelState → PanelState
  | .ready => .halted
  | .parking => .halted
  | .parked => .parked
  | .halted => .halted
  | .unbound => .unbound

/-- The write of a final status of an entry of panel p's window (R4, R5, R176). -/
def finalWrite (p : PanelId) (ofRequest : Bool) (x : Entry × Final) : WriteTxn where
  kind := .status p x.2.state x.1.ticket.notify ofRequest
  addr := x.1.ticket.addr + 8
  data := [x.2.state.code, x.2.reason.code] ++ bytes16 x.2.detail

/-! ### Breaks of gate entries and halts -/

/-- The ARMED entries whose mask holds the panel, which break when it is lost, in ascending order (R149, R151). -/
def State.lostGates (s : State) (p : PanelId) : List GateId :=
  allGates.filter fun g => (s.gate g).armed && hasPanel (s.gate g).mask p

/-- The ARMED entries whose timeout has run out, in ascending order (R149, R150). -/
def State.timedOutGates (s : State) : List GateId :=
  allGates.filter fun g => (s.gate g).armed && (s.gate g).timeout == some 0

/-- The panels that some entries list, entry by entry and in arrival order within each (R149). -/
def State.listed (s : State) (gs : List GateId) : List PanelId := gs.flatMap fun g => (s.gate g).list

/-- No panel is listed twice, and `front` is the head of each listed panel's window: its arrived GATE ticket (R144). -/
abbrev State.Fronts (s : State) (gs : List GateId) (front : PanelId → Entry) : Prop :=
  (s.listed gs).Nodup ∧ ∀ q ∈ s.listed gs, (s.panel q).window.head? = some (front q)

/-- The final status of the listed tickets of an entry that breaks (R149). -/
def gateBroken (reason : Reason) : Final where
  state := .gateBroken
  reason := reason
  detail := 0

/-- The writes of the breaks of some entries (R149). -/
def State.brokenWrites (s : State) (gs : List GateId) (front : PanelId → Entry) (reason : Reason)
    (own : PanelId → Bool) : List WriteTxn :=
  (s.listed gs).map fun q => finalWrite q (own q) (front q, gateBroken reason)

/-- A panel record after the breaks of some entries: a listed panel loses its GATE ticket and its arrival (R24, R149). -/
def State.broken (s : State) (gs : List GateId) (q : PanelId) : Panel :=
  if q ∈ s.listed gs then { s.panel q with window := (s.panel q).window.drop 1, head := .clear, gateAt := none }
  else s.panel q

/-- A gate entry after the breaks of some entries. -/
def State.gateAfter (s : State) (gs : List GateId) (g : GateId) : Gate := if g ∈ gs then Gate.free else s.gate g

/-- The entries that a halting fault of the panel breaks: it is lost when it becomes HALTED (R26, R151). -/
def State.haltGates (s : State) (p : PanelId) : List GateId :=
  if (s.panel p).state = .ready ∨ (s.panel p).state = .parking then s.lostGates p else []

/-- The writes of those breaks. -/
def State.haltWrites (s : State) (p : PanelId) (front : PanelId → Entry) : List WriteTxn :=
  s.brokenWrites (s.haltGates p) front .memberLost fun _ => false

/-! ### What UNBIND and REWIND do -/

/-- Lane l after the deassertion that cuts its transaction (R129, R136, R139). -/
def State.cutLane (s : State) (l : LaneId) : Lane :=
  { s.lane l with
    link := .gapAfterAbort, tx := none, cause := none, shift := none, stage := none, reply := [], sel := none
    ldo := .driven false, ldc := true
    bufA := (s.lane l).bufA.cut (s.port.awaits l 0), bufB := (s.lane l).bufB.cut (s.port.awaits l 1) }

/-- The port after an abort has dropped the lane's pixel fetch transactions that are not sent (R139, R158). -/
def State.pixelsDropped (s : State) (l : LaneId) : Port := { s.port with pixQ := s.port.pixQ.set l [] }

/-- The rows a cut strip counts as sent; other work has none (R5). -/
def Work.cutRows : Work → Nat
  | .strip n => n
  | _ => 0

/-- The pieces of an image head with rectangle rect: cut with the planned offset once it is started, and with the panel's
scroll offset before (R79, R80). -/
def Panel.piecesOf (r : Panel) (rect : Rect) : List Piece :=
  r.desc.pieces (if r.head.started = true then r.head.offset else r.scroll) rect.y rect.h

/-- The detail of the ABORTED status of panel p's head when its transaction is cut: the rows of the completed strips and of
the cut one for an image, and else 0 (R5, R41). -/
def Panel.cutDetail (r : Panel) (e : Entry) (work : Work) : Nat :=
  if (e.ticket.body.rect?).isSome = true then r.rowsDone + work.cutRows else 0

/-- UNBIND or REWIND is taken for panel p, leaving record r and control port c, and orders the abort of a transaction in
flight: before the closing of the event the lane goes as its link state gives, and the request waits while a transaction is
in flight or a chain access is under way (R19, R37, R43, R139). -/
def TakenAndCut (s : State) (p : PanelId) (cmd : Instr) (r : Panel) (c : Control) (cause : AbortCause) : Prop :=
  let l := (s.panel p).desc.lane
  let ln := s.lane l
  ∃ x : State, exec cmd s = .next x.commit ∧
    x = { s with panels := x.panels, lanes := x.lanes, port := x.port, ctl := c } ∧
    (∀ q : PanelId, q ≠ p → x.panel q = s.panel q) ∧ (∀ m : LaneId, m ≠ l → x.lane m = s.lane m) ∧
    (x.inFlight p = true ∨ (s.panel p).access ≠ .idle → x.advance = x) ∧
    (s.inFlight p = true → ln.link = .shifting →
      x.panel p = r ∧ x.lane l = { ln with link := .aborting, stage := none, cause := some cause } ∧
      x.port = s.pixelsDropped l) ∧
    (∀ tx, ln.tx = some tx → tx.panel = p → ln.link = .stalled →
      x.panel p = { r with cont := false, head := { r.head with cut := tx.work.cutRows } } ∧ x.lane l = s.cutLane l ∧
      x.port = s.pixelsDropped l ∧ x.inFlight p = false) ∧
    (s.inFlight p = false ∨ ln.link ≠ .shifting ∧ ln.link ≠ .stalled →
      x.panel p = r ∧ x.lanes = s.lanes ∧ x.port = s.port ∧ x.inFlight p = s.inFlight p)

/-- The final status that UNBIND or REWIND gives entry i of a panel's window (R38, R43). -/
def windowFinal (r : Panel) (reason : Reason) (i : Nat) : Final :=
  if i = 0 ∧ r.head.started = true then { state := .aborted, reason := reason, detail := r.abortDetail }
  else { state := .cancelled, reason := reason, detail := 0 }

/-- The writes UNBIND or REWIND issues for a panel's window, in chain order (R38, R43). -/
def windowWrites (p : PanelId) (r : Panel) (reason : Reason) : List WriteTxn :=
  r.window.zipIdx.map fun e => finalWrite p true (e.1, windowFinal r reason e.2)

/-- The result of a request that waited for its writes (R38, R43, R152). -/
def Control.writesDone (c : Control) : Result := if c.busErr = true then .busError else .ok

/-! ### Nudges and held reads -/

/-- The panel that a nudge of m polls at once (R16). -/
abbrev nudgePolled (m : Half) (s : State) (p : PanelId) : Prop :=
  hasPanel m p = true ∧ (s.panel p).state = .ready ∧ (s.panel p).unbindPending = false ∧
    (s.panel p).cursor.watching = true ∧ (s.panel p).access = .idle ∧ s.part = .running

/-- The panel whose repoll mark a nudge of m sets (R16). -/
abbrev nudgeMarked (m : Half) (s : State) (p : PanelId) : Prop :=
  hasPanel m p = true ∧ (s.panel p).state = .ready ∧ (s.panel p).unbindPending = false ∧
    (s.panel p).cursor.watching = true ∧
    ((s.panel p).access = .polling ∨ (s.panel p).access = .idle ∧ s.part = .stopped)

/-- A write is for a panel: it writes the status of one of the panel's tickets, or a reply of one (R159). -/
def WriteKind.isFor (k : WriteKind) (p : PanelId) : Bool :=
  match k with
  | .taken q => q = p
  | .status q _ _ _ => q = p
  | .reply q => q = p
  | .report => false

/-- A chain read may be sent: no write for its panel is in the write queue or outstanding (R159). -/
abbrev notHeld (q : Port) (x : ReadTxn) : Prop :=
  ∀ p : PanelId, x.owner = .ticket p ∨ x.owner = .link p →
    (∀ w ∈ q.writeQ, w.kind.isFor p = false) ∧ ∀ w ∈ q.outWrites, w.kind.isFor p = false

/-! ### Frames -/

/-- Two states agree on every panel but one. -/
abbrev SameButPanel (p : PanelId) (s t : State) : Prop := ∀ q : PanelId, q ≠ p → t.panel q = s.panel q

/-- Two states agree on every lane but one. -/
abbrev SameButLane (l : LaneId) (s t : State) : Prop := ∀ m : LaneId, m ≠ l → t.lane m = s.lane m

/-- The state with the answered read's place freed (R156). -/
def State.readFreed (s : State) (x : ReadTxn) : State :=
  { s with port := { s.port with outReads := s.port.outReads.erase x } }

/-- The state with the oldest outstanding write's place freed (R156). -/
def State.writeFreed (s : State) (rest : List WriteTxn) : State :=
  { s with port := { s.port with outWrites := rest } }

/-- The outstanding read of an owner. -/
abbrev State.Outstanding (s : State) (own : ReadOwner → Bool) (x : ReadTxn) : Prop :=
  s.port.outReads.find? (fun t => own t.owner) = some x

end Sys2Proof.Machine
end

