-- ==== Sys2Proof/WellFormed.lean ====
section
/-! DEFINITION. What a command's operands must satisfy to be one the spec describes. -/
namespace Sys2Proof

/-- An OK response to a read carries the bytes of one transaction: 1 to 64 of them (R156). -/
def ReadResp.wellFormed : ReadResp → Bool
  | .ok bytes => 1 ≤ bytes.length && bytes.length ≤ 64
  | .error => true

/-- An OK response to a ticket read carries 64 bytes (R1), one to a link poll carries 4 (R14). -/
def ReadResp.carries (n : Nat) : ReadResp → Bool
  | .ok bytes => bytes.length == n
  | .error => true

/-- The request codes of R172. -/
def requestCodes : List Byte :=
  [0x01, 0x02, 0x03, 0x10, 0x11, 0x12, 0x13, 0x14, 0x15, 0x16, 0x20]

/-- The transactions of a control read lie inside its record (R177, R178); a source row is at most 2560 bytes (R157). -/
def Instr.wellFormed : Instr → Bool
  | .badRequest code _ => !(requestCodes.contains code)
  | .ticketReadAnswered _ resp => resp.carries 64
  | .linkPollAnswered _ resp => resp.carries 4
  | .pixelFetchAnswered _ _ offset resp => resp.wellFormed && offset < 2560
  | .profileReadAnswered offset resp => resp.wellFormed && offset < 16
  | .laneRecordReadAnswered offset resp => resp.wellFormed && offset < 4
  | .toleranceReadAnswered offset resp => resp.wellFormed && offset < 20
  | .descriptorReadAnswered offset resp => resp.wellFormed && offset < 32
  | .pinReset | .softReset _ _ | .drainComplete | .runStart _ _ | .runStop _ _ | .periodUnitsWrite _
  | .tolEnableWrite _ | .nudge _ | .notifyClear _ | .faultClear _ | .ctlDoneClear | .ctlOverrunClear _
  | .irqLevelsWrite _ | .registerWrite _ _ | .loadProfile _ | .setLane _ | .setTolerance _ | .bind _ | .unbind _
  | .park _ | .resume _ | .rewind _ | .report _ | .retuneTe _ | .breakGate _ | .qualifiedEdge _ _ | .throttleHigh
  | .throttleLow | .tolAccept | .periodBoundary | .forcedPark _ | .settleEnd _ | .expiry _ | .holdExpiry _
  | .teLost _ | .gateTimeout | .ticketFetch _ | .memoryRequestSent | .takenWriteAnswered _ | .laneGrant _
  | .byteTimeEnd _ _ | .transactionCompletion _ | .gapAfterAbortEnd _ | .statusWriteAnswered _
  | .replyWriteAnswered _ | .reportWriteAnswered _ | .teFilterSample _ | .tolAcceptLow => true

end Sys2Proof
end

