-- ==== Sys2Proof/Certificates/Slice0/Obligations.lean ====
section
/-! DEFINITION. The statements for the provers, each a proposition. Where a command closes its event with `State.commit`
(the waiting request, the heads, the tolerance recompute), its statement describes the state x before that closing, and
ClosingAnEventAdvancesHeadsAndRecomputes says what the closing does. -/
section
open Sys2Proof Sys2Proof.Machine

/-! ### Steps and the queue -/

/-- A step runs the command at the front of the queue on the state with the queue's rest. -/
def Obligations.StepRunsTheFrontCommand : Prop :=
  ∀ (c : Instr) (rest : List Instr) (s : State), s.pending = c :: rest → step s = exec c { s with pending := rest }

/-- On an empty queue a step lets one unit of the period in progress pass, short of its end (the model's choice, log 2). -/
def Obligations.IdleStepPassesOneUnit : Prop :=
  ∀ s : State, s.pending = [] → ∃ t, step s = .next t ∧ t = { s with timer := t.timer } ∧
    t.timer.count = s.timer.count ∧
    (s.timer.period = none → t.timer.period = none) ∧
    ∀ len progress, s.timer.period = some (len, progress) →
      (progress + 1 < len → t.timer.period = some (len, progress + 1)) ∧
      (len ≤ progress + 1 → t.timer.period = some (len, progress))

/-- No command changes the queue of the commands that wait. -/
def Obligations.CommandsLeaveTheQueue : Prop :=
  ∀ (c : Instr) (s t : State), exec c s = .next t → t.pending = s.pending

/-- What closes an event: the request in progress goes on, then the panel table acts on every head it may act on, in turn,
then the level is recomputed, once, whether or not the event changed the idle time and before a TICKET_FETCH that the
event lets start (the model's choices, log 18, 19, 33, 37). A head may be acted on while the part is RUNNING, its panel
READY with unbind pending clear and the head not started: a FENCE is written DONE, a GATE arrives, a head that fails its
check gets its FAILED status, any other waits; which of several panels is first is free (log 5). A request that waits for nothing, or for more than writes, is left as it is. The closing changes no part state, timer, profile, pin or
queue, no read of the port, and of the lanes only their committed loads; it adds to the write queue at its tail; the
recompute changes the tolerance reporter alone. -/
def Obligations.ClosingAnEventAdvancesHeadsAndRecomputes : Prop :=
  (∀ s : State, ∃ ws : List WriteTxn, s.commit.port = { s.port with writeQ := s.port.writeQ ++ ws }) ∧
  (∀ s : State, s.commit = { s with
    panels := s.commit.panels, gates := s.commit.gates, lanes := s.commit.lanes, port := s.commit.port,
    ctl := s.commit.ctl, tol := s.commit.tol, freeCount := s.commit.freeCount }) ∧
  (∀ (s : State) (l : LaneId), s.commit.lane l = { s.lane l with committed := (s.commit.lane l).committed }) ∧
  (∀ s : State, s.advance = s → s.actors = [] → s.commit = s.recompute) ∧
  (∀ s : State, s.recompute = { s with tol := s.recompute.tol }) ∧
  (∀ s : State, s.commit = (actHeads 128 s.advance).recompute) ∧
  (∀ s : State, s.ctl.op = .none ∨ s.ctl.op = .reporting ∨ (∃ p, s.ctl.op = .parkWait p ∨ s.ctl.op = .parkForced p) ∨
    (∃ kind want got err, s.ctl.op = .reading kind want got err) → s.advance = s) ∧
  (∀ (s : State) (p : PanelId),
    let r := s.panel p
    let may := s.part = .running ∧ r.state = .ready ∧ r.unbindPending = false ∧ r.head.started = false
    (¬ may ∨ r.window = [] → s.headAct p = none) ∧
    ∀ e rest, may → r.window = e :: rest →
      (e.ticket.body = .fence → s.headAct p = some (.final { state := .done, reason := .none, detail := 0 })) ∧
      (∀ g mask timeout, e.ticket.body = .gate g mask timeout →
        s.headAct p = some (.arrive g mask timeout e.ticket.align)) ∧
      (e.ticket.body ≠ .fence → e.ticket.body.isGate = false →
        s.headAct p = (headCheck r.desc (s.profileOf p) e.ticket.body).map .final)) ∧
  (∀ (s : State) (p : PanelId), (∀ f : Final, s.doHead p (.final f) = s.endHead p f false) ∧
    ∀ g mask timeout align, s.doHead p (.arrive g mask timeout align) = s.arrive p g mask timeout align) ∧
  (∀ (s : State) (p : PanelId), p ∈ s.actors ↔ (s.headAct p).isSome = true) ∧
  (∀ (s : State) (n : Nat), (s.actors = [] → actHeads n s = s) ∧
    (s.actors ≠ [] → ∃ p a k, s.headAct p = some a ∧ actHeads (n + 1) s = actHeads n ((s.useFree k).doHead p a))) ∧
  ∀ s : State, (∀ p : PanelId, (s.panel p).window.length ≤ 4) → (actHeads 128 s.advance).actors = []

/-! ### Resets and part state -/

/-- A pin reset gives every block its pin reset values at once; that the input pins keep their levels is the model's choice,
log 7. -/
def Obligations.PinResetGivesResetValues : Prop :=
  ∀ s : State, ∃ t, exec .pinReset s = .next t ∧
    t.part = .stopped ∧ t.timer.count = 0 ∧ t.timer.period = none ∧
    t.readReg .partControl = 0x800 ∧ t.readReg .period = 0 ∧ t.readReg .ctlArg = 0 ∧ t.readReg .ctlRequest = 0 ∧
    t.readReg .ctlResult = 0 ∧ t.readReg .notify = 0 ∧ t.readReg .fault = 0 ∧ t.readReg .irqLevels = 0 ∧
    t.readReg .irqStatus = 0 ∧ t.ctl.op = .none ∧
    t.tol.record = .zero ∧ t.tol.loaded = false ∧ t.tol.level = .active ∧ t.tol.inFlight = none ∧ t.tol.slot = none ∧
    t.port.Cleared ∧
    (∀ p : PanelId, (t.panel p).Cleared (s.tePin p)) ∧
    (∀ i : ProfileId, t.profile i = .reset ∧ (t.profile i).valid = false) ∧
    (∀ l : LaneId, (t.lane l).Cleared ∧ (t.lane l).rateCode = 0 ∧ (t.lane l).capacity = 0 ∧ (t.lane l).reserve = 0) ∧
    (∀ g : GateId, (t.gate g).Cleared) ∧
    t.pins = s.pins ∧ t.pending = s.pending

/-- The state right after reset holds the pin reset values of every block, nothing pending, and every invariant. That the
input pins are low there (THROTTLE in PART_STATUS, the qualified levels) is the model's choice, log 7. -/
def Obligations.ResetStateHoldsValuesAndInvariants : Prop :=
  let s := State.reset
  s.part = .stopped ∧ s.timer.count = 0 ∧ s.timer.period = none ∧
  s.readReg .ident = 0x04161410 ∧ s.readReg .partControl = 0x800 ∧ s.readReg .partStatus = 0 ∧ s.readReg .period = 0 ∧
  s.readReg .ctlArg = 0 ∧ s.readReg .ctlRequest = 0 ∧ s.readReg .ctlResult = 0 ∧ s.readReg .notify = 0 ∧
  s.readReg .fault = 0 ∧ s.readReg .irqLevels = 0 ∧ s.readReg .irqStatus = 0 ∧
  s.ctl.op = .none ∧ s.tol.record = .zero ∧ s.tol.loaded = false ∧ s.tol.level = .active ∧ s.tol.inFlight = none ∧
  s.tol.slot = none ∧ s.port.Cleared ∧ (∀ p : PanelId, (s.panel p).Cleared false) ∧
  (∀ i : ProfileId, s.profile i = .reset ∧ (s.profile i).valid = false) ∧
  (∀ l : LaneId, (s.lane l).Cleared ∧ (s.lane l).rateCode = 0 ∧ (s.lane l).capacity = 0 ∧ (s.lane l).reserve = 0) ∧
  (∀ g : GateId, (s.gate g).Cleared) ∧ s.pending = [] ∧
  s.BusOk ∧ s.PeriodOk ∧ s.SelectsOk ∧ s.SlotOk ∧ s.GatesOk ∧ s.ArrivalsOk ∧ s.FlightsOk ∧ s.AccountsOk ∧ s.ParkingOk ∧
  s.LoadsOk

/-- A PART_CONTROL write with RESET 0: part states as the table gives, PERIOD_UNITS and TOL_ENABLE taken in every part
state; going to RUNNING begins a whole period with the count unchanged, clears the repoll marks of the chains that may be
polled and issues their link polls in some order (log 5); a write of PERIOD_UNITS alone leaves the period in progress as it
is; TOL_ENABLE alone sends the level's message when it goes to 1 and empties the pending slot when it goes to 0. That
PERIOD_UNITS and TOL_ENABLE of a write take effect before its RUN is the model's choice, log 16. -/
def Obligations.PartControlWritesFollowTheTable : Prop :=
  (∀ (units : BitVec 6) (en : Bool) (s : State),
    (∃ t, exec (.runStart units en) s = .next t ∧ t.ctl.units = units ∧ t.ctl.tolEnable = en ∧
      (s.part = .stopped → t.part = .running ∧
        t.timer = { count := s.timer.count, period := some (if units = 0 then 64 else units.toNat, 0) }) ∧
      (s.part ≠ .stopped → t = { s with ctl := t.ctl, tol := t.tol })) ∧
    (∃ t, exec (.runStop units en) s = .next t ∧ t.ctl.units = units ∧ t.ctl.tolEnable = en ∧
      (s.part = .running → t.part = .stopped ∧ t.timer = { count := s.timer.count, period := none }) ∧
      (s.part ≠ .running → t = { s with ctl := t.ctl, tol := t.tol }))) ∧
  (∀ (units : BitVec 6) (en : Bool) (s : State), s.part = .stopped →
    let asks (p : PanelId) : Prop := (s.panel p).state = .ready ∧ (s.panel p).unbindPending = false ∧
      (s.panel p).cursor.watching = true ∧ (s.panel p).access = .idle ∧ (s.panel p).repoll = true
    ∃ (x : State) (ps : List PanelId), exec (.runStart units en) s = .next x.commit ∧
      ps.Nodup ∧ (∀ p : PanelId, p ∈ ps ↔ asks p) ∧
      x = { s with
        part := .running
        timer := { count := s.timer.count, period := some (if units = 0 then 64 else units.toNat, 0) }
        ctl := { s.ctl with units := units, tolEnable := en }
        tol := s.tolAfterEnable en
        panels := x.panels, freeCount := x.freeCount
        port := { s.port with chainQ := s.port.chainQ ++ ps.map fun p =>
          { owner := .link p, addr := (s.panel p).cursor.addr, len := 4 } } } ∧
      ∀ p : PanelId, (asks p → x.panel p = { s.panel p with repoll := false, access := .polling }) ∧
        (¬ asks p → x.panel p = s.panel p)) ∧
  ∀ s : State,
    (∀ units : BitVec 6, exec (.periodUnitsWrite units) s = .next { s with ctl := { s.ctl with units := units } }) ∧
    (∀ en : Bool, en = s.ctl.tolEnable → exec (.tolEnableWrite en) s = .next s) ∧
    (s.ctl.tolEnable = true → exec (.tolEnableWrite false) s =
      .next { s with ctl := { s.ctl with tolEnable := false }, tol := { s.tol with slot := none } }) ∧
    (s.ctl.tolEnable = false → exec (.tolEnableWrite true) s =
      .next { s with
        ctl := { s.ctl with tolEnable := true }
        tol := s.tol.send (s.tol.record.message s.tol.level) })

/-- When RUN goes to 0 every open write window closes and every estimate base is cleared, the skip counter, the watch and
the estimate keep their values, and nothing in flight is touched; while STOPPED no boundary and no TE event is taken; a
TE event that finds the base clear leaves the estimate as it is. -/
def Obligations.RunStopClosesWriteWindows : Prop :=
  (∀ (units : BitVec 6) (en : Bool) (s : State), s.part = .running →
    ∃ t, exec (.runStop units en) s = .next t ∧
      (∀ p : PanelId, t.panel p = { s.panel p with tear := (t.panel p).tear } ∧
        ((s.panel p).tear.state = .opened →
          (t.panel p).tear = { (s.panel p).tear with
            state := .closed, budget := 0, hold := 0, base := false, meeting := (t.panel p).tear.meeting }) ∧
        ((s.panel p).tear.state ≠ .opened → (t.panel p).tear = { (s.panel p).tear with
          base := false, meeting := (t.panel p).tear.meeting })) ∧
      t = { s with part := t.part, timer := t.timer, ctl := t.ctl, tol := t.tol, panels := t.panels }) ∧
  (∀ s : State, s.part = .stopped → exec .periodBoundary s = .next s ∧
    ∀ (p : PanelId) (level : Bool), s.isTeEvent p level = false) ∧
  (∀ (p : PanelId) (level together : Bool) (s : State), (s.panel p).tear.edgeDue level = true →
    s.isTeEvent p level = true →
    (s.panel p).tear.base = false →
    ∃ t, exec (.qualifiedEdge p { level := level, together := together }) s = .next t ∧
      (t.panel p).tear.estimate = (s.panel p).tear.estimate ∧
      ((s.panel p).tear.skipCtr = 0 → (t.panel p).tear.state = .opened))

/-- A soft reset of a STOPPED or RUNNING part enters RESETTING, every cause is cleared and both interrupt lines deasserted
(R175). One written while RESETTING changes PERIOD_UNITS and TOL_ENABLE, with what TOL_ENABLE does at the tolerance port, and
nothing else: the two fields are taken in every part state (R169), and that R170's 'no further effect' leaves them to be
taken is the model's choice, log 35. -/
def Obligations.SoftResetEntersResetting : Prop :=
  ∀ (units : BitVec 6) (en : Bool) (s : State), ∃ t, exec (.softReset units en) s = .next t ∧
    t.part = .resetting ∧ t.ctl.units = units ∧ t.ctl.tolEnable = en ∧
    (s.part = .resetting →
      t = { s with ctl := { s.ctl with units := units, tolEnable := en }, tol := s.tolAfterEnable en }) ∧
    (s.part ≠ .resetting →
      t.timer = { count := s.timer.count, period := none } ∧
      t.ctl.notify = 0 ∧ t.ctl.fault = 0 ∧ t.ctl.done = false ∧ t.ctl.overrun = false ∧ t.ctl.op = .none ∧
      t.ctl.arg = s.ctl.arg ∧ t.ctl.code = s.ctl.code ∧ t.ctl.target = s.ctl.target ∧ t.ctl.levels = s.ctl.levels ∧
      (s.ctl.resState = .busy → t.ctl.resState = .done ∧ t.ctl.result = .reset) ∧
      (s.ctl.resState ≠ .busy → t.ctl.resState = s.ctl.resState ∧ t.ctl.result = s.ctl.result) ∧
      t.irqRoutine = false ∧ t.irqUrgent = false ∧
      (∀ l : LaneId, t.port.pixQ[l] = []) ∧ t.port.chainQ = [] ∧ t.port.ctlQ = [] ∧
      t.port.writeQ = s.port.writeQ ∧ t.port.outReads = s.port.outReads ∧ t.port.outWrites = s.port.outWrites ∧
      t.tol.level = .active ∧
      (en = true → t.tol.inFlight = some (s.tol.record.message .active) ∨
        t.tol.slot = some (s.tol.record.message .active)) ∧
      (∀ p : PanelId, t.panel p = { s.panel p with cont := (t.panel p).cont }) ∧
      (∀ l : LaneId,
        ((s.lane l).link = .shifting → (t.lane l).link = .aborting ∧ (t.lane l).shift = (s.lane l).shift ∧
          (t.lane l).stage = none) ∧
        ((s.lane l).link = .stalled → (t.lane l).link = .gapAfterAbort ∧ (t.lane l).sel = none) ∧
        ((s.lane l).link ≠ .shifting → (s.lane l).link ≠ .stalled → t.lane l = s.lane l)) ∧
      t.gates = s.gates ∧ t.profiles = s.profiles ∧ t.pins = s.pins ∧ t.freeCount = s.freeCount)

/-- When every lane is idle and the port drained, the drain completes: the part is STOPPED, every block takes its soft
reset values, and the level is recomputed for an idle time of 65535 with the reporter otherwise kept; before that the event
does not arise. While RESETTING every response is discarded and only frees the place it held in the port, and with it a line
buffer that a cut left reserved; a completion only makes its lane idle. -/
def Obligations.DrainCompleteGivesSoftResetValues : Prop :=
  (∀ s : State,
    (s.part = .resetting → (∀ l : LaneId, (s.lane l).link = .idle) → ¬ s.port.Holds →
      ∃ t, exec .drainComplete s = .next t ∧ t.part = .stopped ∧ t.timer = { count := 0, period := none } ∧
        t.port.Cleared ∧ (∀ p : PanelId, (t.panel p).Cleared (s.tePin p)) ∧
        (∀ l : LaneId, (t.lane l).Cleared ∧ (t.lane l).rateCode = (s.lane l).rateCode ∧
          (t.lane l).capacity = (s.lane l).capacity ∧ (t.lane l).reserve = (s.lane l).reserve) ∧
        (∀ g : GateId, (t.gate g).Cleared) ∧
        t = { s with
          part := t.part, timer := t.timer, port := t.port, panels := t.panels, lanes := t.lanes, gates := t.gates,
          tol := t.tol } ∧
        t.tol.record = s.tol.record ∧ t.tol.loaded = s.tol.loaded ∧
        ∃ x : State, t = x.recompute ∧ x = { t with tol := s.tol } ∧ x.predictedIdle = 65535) ∧
    (¬ (s.part = .resetting ∧ (∀ l : LaneId, (s.lane l).link = .idle) ∧ ¬ s.port.Holds) →
      exec .drainComplete s = .next s)) ∧
  (∀ (s : State) (x : ReadTxn) (resp : ReadResp), s.part = .resetting →
    (∀ bs : List Byte, resp = .ok bs → bs.length = x.len) →
    (∀ p : PanelId, s.Outstanding (· == .ticket p) x → exec (.ticketReadAnswered p resp) s = .next (s.readFreed x)) ∧
    (∀ p : PanelId, s.Outstanding (· == .link p) x → exec (.linkPollAnswered p resp) s = .next (s.readFreed x)) ∧
    (∀ off : Nat,
      (s.Outstanding (ReadOwner.isControl RecordKind.isProfile off) x →
        exec (.profileReadAnswered off resp) s = .next (s.readFreed x)) ∧
      (s.Outstanding (ReadOwner.isControl RecordKind.isLaneRecord off) x →
        exec (.laneRecordReadAnswered off resp) s = .next (s.readFreed x)) ∧
      (s.Outstanding (ReadOwner.isControl RecordKind.isTolerance off) x →
        exec (.toleranceReadAnswered off resp) s = .next (s.readFreed x)) ∧
      (s.Outstanding (ReadOwner.isControl RecordKind.isDescriptor off) x →
        exec (.descriptorReadAnswered off resp) s = .next (s.readFreed x))) ∧
    ∀ (l : LaneId) (b : BufId) (off : Nat), s.Outstanding (ReadOwner.isPixel l b off) x →
      let ended := (s.lane l).buf b = .reserved ∧ (s.readFreed x).fetchOver l b = true
      (ended → exec (.pixelFetchAnswered l b off resp) s =
        .next ((s.readFreed x).setLane l ((s.lane l).setBuf b .free))) ∧
      (¬ ended → exec (.pixelFetchAnswered l b off resp) s = .next (s.readFreed x))) ∧
  (∀ (s : State) (w : WriteTxn) (rest : List WriteTxn) (resp : WriteResp), s.part = .resetting →
    s.port.outWrites = w :: rest →
    ((∃ p, w.kind = .taken p) → exec (.takenWriteAnswered resp) s = .next (s.writeFreed rest)) ∧
    ((∃ p st notify ofRequest, w.kind = .status p st notify ofRequest) →
      exec (.statusWriteAnswered resp) s = .next (s.writeFreed rest)) ∧
    ((∃ p, w.kind = .reply p) → exec (.replyWriteAnswered resp) s = .next (s.writeFreed rest)) ∧
    (w.kind = .report → exec (.reportWriteAnswered resp) s = .next (s.writeFreed rest))) ∧
  ∀ (s : State) (l : LaneId), s.part = .resetting → (s.lane l).link = .ending →
    exec (.transactionCompletion l) s =
      .next (s.setLane l { s.lane l with link := .idle, tx := none, cause := none, reply := [] })

/-! ### The register window -/

/-- The offset of each register in the window, and what a read of it shows, field by field; the bits that no field names
read 0. -/
def Obligations.RegisterReadsShowTheirFields : Prop :=
  (∀ (n : Nat) (reg : Reg), regAt n = some reg ↔
    (reg, n) ∈ [(Reg.ident, 0x00), (.partControl, 0x04), (.partStatus, 0x08), (.period, 0x0C), (.ctlArg, 0x10),
      (.ctlRequest, 0x14), (.ctlResult, 0x18), (.nudge, 0x1C), (.notify, 0x20), (.fault, 0x24), (.irqLevels, 0x28),
      (.irqStatus, 0x2C)]) ∧
  [PartState.stopped, .running, .resetting].map (·.code) = [0, 1, 2] ∧
  [ReqState.idle, .busy, .done].map (·.code) = [0, 1, 2] ∧
  [Result.ok, .badRequest, .notBound, .inUse, .badState, .busError, .noLane, .noProfile, .selectInUse, .badGeometry,
    .badBudget, .badField, .noBandwidth, .parkForced, .notArmed, .reset].map (·.code) =
    [0, 1, 2, 3, 4, 5, 6, 7, 8, 9, 10, 11, 12, 13, 14, 15] ∧
  (∀ (s : State) (n : Nat) (reg : Reg) (v : Word), regAt n = some reg →
    s.readAt n = some (s.readReg reg) ∧ s.writeAt n v = some (s.busWrite reg v) ∧
    exec (.registerWrite reg v) s = .next (s.busWrite reg v)) ∧
  ∀ s : State,
    s.readReg .ident = 0x04161410 ∧ s.readReg .nudge = 0 ∧ s.readReg .period = s.timer.count ∧
    s.readReg .ctlArg = s.ctl.arg ∧
    ((s.readReg .partControl).getLsbD 0 = true ↔ s.part = .running) ∧
    (s.readReg .partControl).extractLsb' 1 7 = 0 ∧ (s.readReg .partControl).extractLsb' 8 6 = s.ctl.units ∧
    (s.readReg .partControl).extractLsb' 14 2 = 0 ∧ (s.readReg .partControl).getLsbD 16 = s.ctl.tolEnable ∧
    (s.readReg .partControl).extractLsb' 17 15 = 0 ∧
    ((s.readReg .partStatus).extractLsb' 0 2).toNat = s.part.code ∧
    ((s.readReg .partStatus).getLsbD 4 = true ↔ s.ctl.resState = .busy) ∧
    (s.readReg .partStatus).getLsbD 5 = s.ctl.overrun ∧ (s.readReg .partStatus).getLsbD 8 = s.pins.throttle ∧
    (s.readReg .partStatus).getLsbD 9 = s.tol.inFlight.isSome ∧
    (∀ i, i ∉ [0, 1, 4, 5, 8, 9] → (s.readReg .partStatus).getLsbD i = false) ∧
    (s.readReg .ctlRequest).extractLsb' 0 8 = s.ctl.code ∧ (s.readReg .ctlRequest).extractLsb' 8 8 = s.ctl.target ∧
    (s.readReg .ctlRequest).extractLsb' 16 16 = 0 ∧
    ((s.readReg .ctlResult).extractLsb' 0 2).toNat = s.ctl.resState.code ∧
    (s.readReg .ctlResult).extractLsb' 2 6 = 0 ∧ (s.readReg .ctlResult).extractLsb' 8 8 = s.ctl.result.code ∧
    (s.readReg .ctlResult).extractLsb' 16 16 = 0 ∧
    (s.readReg .notify).extractLsb' 0 16 = s.ctl.notify ∧ (s.readReg .notify).extractLsb' 16 16 = 0 ∧
    (s.readReg .fault).extractLsb' 0 16 = s.ctl.fault ∧ (s.readReg .fault).extractLsb' 16 16 = 0 ∧
    (s.readReg .irqLevels).extractLsb' 0 8 = s.ctl.levels ∧ (s.readReg .irqLevels).extractLsb' 8 24 = 0 ∧
    (s.readReg .irqStatus).getLsbD 0 = s.ctl.done ∧
    ((s.readReg .irqStatus).getLsbD 1 = true ↔ s.ctl.notify ≠ 0) ∧
    ((s.readReg .irqStatus).getLsbD 2 = true ↔ s.ctl.fault ≠ 0) ∧
    (s.readReg .irqStatus).getLsbD 3 = s.ctl.overrun ∧ (s.readReg .irqStatus).extractLsb' 4 28 = 0

/-- What a write of each register does: read-only registers ignore it, the others act as the command that writes them. -/
def Obligations.RegisterWritesActAsTheirCommands : Prop :=
  ∀ (v : Word) (s : State),
    exec (.registerWrite .ident v) s = .next s ∧ exec (.registerWrite .period v) s = .next s ∧
    exec (.registerWrite .ctlResult v) s = .next s ∧
    exec (.registerWrite .ctlArg v) s = .next { s with ctl := { s.ctl with arg := v } } ∧
    exec (.registerWrite .nudge v) s = exec (.nudge (v.extractLsb' 0 16)) s ∧
    exec (.registerWrite .notify v) s = exec (.notifyClear (v.extractLsb' 0 16)) s ∧
    exec (.registerWrite .fault v) s = exec (.faultClear (v.extractLsb' 0 16)) s ∧
    exec (.registerWrite .irqLevels v) s = exec (.irqLevelsWrite (v.extractLsb' 0 8)) s ∧
    exec (.registerWrite .partStatus v) s =
      .next { s with ctl := { s.ctl with overrun := s.ctl.overrun && !v.getLsbD 5 } } ∧
    exec (.registerWrite .irqStatus v) s = .next { s with ctl := { s.ctl with
      done := s.ctl.done && !v.getLsbD 0
      overrun := s.ctl.overrun && !v.getLsbD 3 } } ∧
    (v.getLsbD 1 = true →
      exec (.registerWrite .partControl v) s = exec (.softReset (v.extractLsb' 8 6) (v.getLsbD 16)) s) ∧
    (v.getLsbD 1 = false → v.getLsbD 0 = true →
      exec (.registerWrite .partControl v) s = exec (.runStart (v.extractLsb' 8 6) (v.getLsbD 16)) s) ∧
    (v.getLsbD 1 = false → v.getLsbD 0 = false →
      exec (.registerWrite .partControl v) s = exec (.runStop (v.extractLsb' 8 6) (v.getLsbD 16)) s) ∧
    exec (.registerWrite .ctlRequest v) s = exec (requestCommand (v.extractLsb' 0 8) (v.extractLsb' 8 8)) s

/-- The clearing writes clear the bits written 1 and leave everything else, IRQ_LEVELS takes its value, and the interrupt
lines follow the pending causes and their levels from moment to moment, as the registers show them. -/
def Obligations.CausesClearAndDriveTheLines : Prop :=
  (∀ s : State,
    (∀ m : Half, ∃ t, exec (.notifyClear m) s = .next t ∧ t = { s with ctl := { s.ctl with notify := t.ctl.notify } } ∧
      ∀ p : PanelId, hasPanel t.ctl.notify p = (hasPanel s.ctl.notify p && !hasPanel m p)) ∧
    (∀ m : Half, ∃ t, exec (.faultClear m) s = .next t ∧ t = { s with ctl := { s.ctl with fault := t.ctl.fault } } ∧
      ∀ p : PanelId, hasPanel t.ctl.fault p = (hasPanel s.ctl.fault p && !hasPanel m p)) ∧
    exec .ctlDoneClear s = .next { s with ctl := { s.ctl with done := false } } ∧
    (∀ via : Bool, exec (.ctlOverrunClear via) s = .next { s with ctl := { s.ctl with overrun := false } }) ∧
    ∀ levels : Byte, exec (.irqLevelsWrite levels) s = .next { s with ctl := { s.ctl with levels := levels } }) ∧
  (∀ s : State, s.irqRoutine = true ↔ ∃ i : Fin 4,
    (s.readReg .irqStatus).getLsbD i.val = true ∧ ((s.readReg .irqLevels).extractLsb' (2 * i.val) 2).toNat = 1) ∧
  (∀ s : State, s.irqUrgent = true ↔ ∃ i : Fin 4,
    (s.readReg .irqStatus).getLsbD i.val = true ∧ 2 ≤ ((s.readReg .irqLevels).extractLsb' (2 * i.val) 2).toNat) ∧
  ∀ s : State, ∃ t, exec .pinReset s = .next t ∧ t.irqRoutine = false ∧ t.irqUrgent = false

/-! ### Control requests -/

/-- A write of CTL_REQUEST is ignored while RESETTING, dropped with CTL_OVERRUN while BUSY, and accepted otherwise: the
code and target are kept, CTL_RESULT becomes BUSY with result 0 and CTL_DONE clear until the request's one completion. -/
def Obligations.RequestsAreAcceptedDroppedOrIgnored : Prop :=
  ∀ (code target : Byte) (s : State),
    (s.part = .resetting → exec (requestCommand code target) s = .next s) ∧
    (s.part ≠ .resetting → s.ctl.resState = .busy →
      exec (requestCommand code target) s = .next { s with ctl := { s.ctl with overrun := true } }) ∧
    (s.Accepts → ∃ t, exec (requestCommand code target) s = .next t ∧
      t.ctl.code = code ∧ t.ctl.target = target ∧ t.ctl.arg = s.ctl.arg ∧ t.ctl.overrun = s.ctl.overrun ∧
      t.ctl.levels = s.ctl.levels ∧
      (t.ctl.resState = .busy ∧ t.ctl.result = .ok ∧ t.ctl.done = false ∨
        t.ctl.resState = .done ∧ t.ctl.done = true ∧ t.ctl.op = .none))

/-- A code that is not in the table ends at once with BAD_REQUEST, a target out of range gives BAD_FIELD, and a panel in a
state that the table refuses gives the table's result; nothing but the control port's record of the request changes. -/
def Obligations.RefusedRequestsGiveTheTabledResult : Prop :=
  ∀ (s : State), s.Accepts →
    (∀ code target : Byte, (Instr.badRequest code target).wellFormed = true →
      EndsWith (.badRequest code target) s .badRequest) ∧
    (∀ target : Byte, 16 ≤ target.toNat →
      EndsWith (.bind target) s .badField ∧ EndsWith (.unbind target) s .badField ∧
      EndsWith (.park target) s .badField ∧ EndsWith (.resume target) s .badField ∧
      EndsWith (.rewind target) s .badField ∧ EndsWith (.report target) s .badField ∧
      EndsWith (.retuneTe target) s .badField) ∧
    (∀ target : Byte, 4 ≤ target.toNat →
      EndsWith (.loadProfile target) s .badField ∧ EndsWith (.setLane target) s .badField) ∧
    (∀ target : Byte, 8 ≤ target.toNat → EndsWith (.breakGate target) s .badField) ∧
    ∀ p : PanelId,
      ((s.panel p).state ≠ .unbound → EndsWith (.bind (targetOf p)) s .inUse) ∧
      ((s.panel p).state = .unbound →
        EndsWith (.unbind (targetOf p)) s .notBound ∧ EndsWith (.park (targetOf p)) s .notBound ∧
        EndsWith (.resume (targetOf p)) s .notBound ∧ EndsWith (.rewind (targetOf p)) s .notBound ∧
        EndsWith (.retuneTe (targetOf p)) s .notBound) ∧
      ((s.panel p).state = .parked ∨ (s.panel p).state = .halted → EndsWith (.park (targetOf p)) s .badState) ∧
      ((s.panel p).state = .ready →
        EndsWith (.resume (targetOf p)) s .badState ∧ EndsWith (.rewind (targetOf p)) s .badState) ∧
      ((s.panel p).state = .parked ∨ (s.panel p).state = .halted → ¬ ChainAddress s.ctl.arg →
        EndsWith (.rewind (targetOf p)) s .badField) ∧
      (¬ ChainAddress s.ctl.arg → EndsWith (.report (targetOf p)) s .badField)

/-- LOAD_PROFILE, SET_LANE, SET_TOLERANCE and BIND, each check in its order: a slot or lane in use and a bad address end
the request, and a request that passes hands the port a control read of the record. Every request is cut into transactions
of rising addresses, which wrap at 32 bits, each ending at the next 64-byte block boundary or at the end of the request. -/
def Obligations.RecordRequestsBeginAControlRead : Prop :=
  (∀ (s : State) (kind : RecordKind) (c : Instr) (code target : Byte), s.Accepts →
    (s.ctl.arg ≠ 0 ∧ s.ctl.arg.toNat % 4 = 0) →
    (c = .loadProfile target ∧ code = 0x01 ∧ (∃ i : ProfileId, target.toNat = i.val ∧ kind = .profile i ∧
      ∀ p : PanelId, (s.panel p).bound = true → (s.panel p).profile ≠ i) ∨
     c = .setLane target ∧ code = 0x02 ∧ (∃ l : LaneId, target.toNat = l.val ∧ kind = .laneRecord l ∧
      ∀ p : PanelId, (s.panel p).bound = true → (s.panel p).desc.lane ≠ l) ∨
     c = .setTolerance target ∧ code = 0x03 ∧ kind = .tolerance ∨
     c = .bind target ∧ code = 0x10 ∧ (∃ p : PanelId, target.toNat = p.val ∧ kind = .descriptor p ∧
      (s.panel p).state = .unbound)) →
    ∃ t, exec c s = .next t ∧
      t.ctl = { s.ctl.accepted code target with op := .reading kind kind.size [] false } ∧
      t.port = { s.port with ctlQ := s.port.ctlQ ++ requestTxns (.control kind) s.ctl.arg kind.size } ∧
      t = { s with ctl := t.ctl, port := t.port, tol := t.tol }) ∧
  (∀ s : State, s.Accepts → ¬ (s.ctl.arg ≠ 0 ∧ s.ctl.arg.toNat % 4 = 0) →
    (∀ i : ProfileId, (∀ p : PanelId, (s.panel p).bound = true → (s.panel p).profile ≠ i) →
      EndsWith (.loadProfile (BitVec.ofNat 8 i.val)) s .badField) ∧
    (∀ l : LaneId, (∀ p : PanelId, (s.panel p).bound = true → (s.panel p).desc.lane ≠ l) →
      EndsWith (.setLane (BitVec.ofNat 8 l.val)) s .badField) ∧
    (∀ target : Byte, EndsWith (.setTolerance target) s .badField) ∧
    ∀ p : PanelId, (s.panel p).state = .unbound → EndsWith (.bind (targetOf p)) s .badField) ∧
  (∀ (s : State) (p : PanelId), s.Accepts → (s.panel p).bound = true →
    EndsWith (.loadProfile (BitVec.ofNat 8 (s.panel p).profile.val)) s .inUse ∧
    EndsWith (.setLane (BitVec.ofNat 8 (s.panel p).desc.lane.val)) s .inUse) ∧
  ∀ (own : Nat → ReadOwner) (addr : Word) (len : Nat),
    let txns := requestTxns own addr len
    (txns.map (·.len)).sum = len ∧
    ∀ (before after : List ReadTxn) (x : ReadTxn), txns = before ++ x :: after →
      let off := (before.map (·.len)).sum
      x.owner = own off ∧ x.addr = addr + BitVec.ofNat 32 off ∧ 1 ≤ x.len ∧
      x.len = min (len - off) (64 - x.addr.toNat % 64)

/-- An answer of a control read that is not the last joins the parts, or marks the ERROR, and the request goes on waiting.
The last answer of a profile, lane or tolerance record: a sound record is loaded and the request ends with OK, an unsound one
ends with BAD_FIELD, an ERROR among the answers with BUS_ERROR, the target unchanged. A tolerance record loaded gives the
level that the predicted idle time then gives under it, and, TOL_ENABLE being 1, one message of that level (log 17). -/
def Obligations.RecordAnswersLoadTheirTarget : Prop :=
  (∀ ln : Lane, ln.reserveSize = ln.capacity * ln.reserve / 8 ∧
    ln.periodicCapacity = ln.capacity - ln.capacity * ln.reserve / 8) ∧
  (∀ d : Descriptor, let i := 2 ^ d.intervalCode
    d.allowance ≤ d.load * i ∧ d.load * i < d.allowance + i) ∧
  (∀ (s : State) (c : Instr) (isKind : RecordKind → Bool) (kind : RecordKind) (want off : Nat)
      (got : List (Nat × List Byte)) (err : Bool) (x : ReadTxn) (resp : ReadResp),
    c = .profileReadAnswered off resp ∧ isKind = RecordKind.isProfile ∨
      c = .laneRecordReadAnswered off resp ∧ isKind = RecordKind.isLaneRecord ∨
      c = .toleranceReadAnswered off resp ∧ isKind = RecordKind.isTolerance ∨
      c = .descriptorReadAnswered off resp ∧ isKind = RecordKind.isDescriptor →
    s.part ≠ .resetting → s.ctl.op = .reading kind want got err → s.Outstanding (ReadOwner.isControl isKind off) x →
    (s.readFreed x).port.controlLeft = true → (∀ bs : List Byte, resp = .ok bs → bs.length = x.len) →
    ∃ t, exec c s = .next t ∧ t = { s.readFreed x with ctl := t.ctl, tol := t.tol } ∧
      (∀ bs : List Byte, resp = .ok bs →
        t.ctl = { s.ctl with op := .reading kind want (insertPart off bs got) err }) ∧
      (resp = .error → t.ctl = { s.ctl with op := .reading kind want got true })) ∧
  (∀ bs : List Byte,
    ((parseProfile bs).isSome = true ↔ (nat8 bs 0 = 1 ∨ nat8 bs 0 = 2) ∧ nat8 bs 1 ≤ 2 ∧ nat8 bs 2 ≤ 3 ∧ nat8 bs 3 ≤ 1 ∧
      nat8 bs 12 ≤ 1) ∧
    ∀ pf, parseProfile bs = some pf → pf = {
      valid := true, k := nat8 bs 0
      fmt := if nat8 bs 1 = 0 then .p16 else if nat8 bs 1 = 1 then .p18 else .p24
      linkMode := pf.linkMode, lsbFirst := decide (nat8 bs 3 = 1)
      columnCode := byteAt bs 4, rowCode := byteAt bs 5, memoryCode := byteAt bs 6
      continueCode := if (byteAt bs 7).getLsbD 0 = true then some (byteAt bs 8) else none
      scrollCode := if (byteAt bs 7).getLsbD 1 = true then some (byteAt bs 9) else none
      sleepCode := if (byteAt bs 7).getLsbD 2 = true then some (byteAt bs 10) else none
      wakeCode := if (byteAt bs 7).getLsbD 3 = true then some (byteAt bs 11) else none
      readDummy := nat8 bs 12, sleepSettle := nat8 bs 13, wakeSettle := nat8 bs 14 } ∧
      pf.linkMode.val = nat8 bs 2) ∧
  (∀ bs : List Byte,
    ((parseTolerance bs).isSome = true ↔ nat8 bs 16 ≤ 1 ∧ (nat16 bs 0 < nat16 bs 4 ∧ nat16 bs 4 < nat16 bs 8) ∧
      nat16 bs 2 ≤ nat16 bs 6 ∧ nat16 bs 6 ≤ nat16 bs 10) ∧
    ∀ rec', parseTolerance bs = some rec' → rec' = {
      lowMin := nat16 bs 0, lowValue := half16 bs 2, mediumMin := nat16 bs 4, mediumValue := half16 bs 6
      highMin := nat16 bs 8, highValue := half16 bs 10, activeValue := half16 bs 12, limit := half16 bs 14
      policy := if nat8 bs 16 = 0 then .stepped else .direct }) ∧
  (∀ (s : State) (i : ProfileId) (want off : Nat) (got : List (Nat × List Byte)) (err : Bool) (x : ReadTxn)
      (resp : ReadResp),
    s.part ≠ .resetting → s.ctl.op = .reading (.profile i) want got err →
    s.Outstanding (ReadOwner.isControl RecordKind.isProfile off) x → (s.readFreed x).port.controlLeft = false →
    (∀ bs : List Byte, resp = .ok bs → bs.length = x.len) →
    ∃ t, exec (.profileReadAnswered off resp) s = .next t ∧
      t.ctl.resState = .done ∧ t.ctl.done = true ∧ t.ctl.op = .none ∧
      (∀ j : ProfileId, j ≠ i → t.profile j = s.profile j) ∧ t.panels = s.panels ∧ t.lanes = s.lanes ∧
      (∀ bs : List Byte, resp = .ok bs → err = false →
        match parseProfile (assemble (insertPart off bs got)) with
        | some pf => t.ctl.result = .ok ∧ t.profile i = pf
        | none => t.ctl.result = .badField ∧ t.profile i = s.profile i) ∧
      (resp = .error ∨ err = true → t.ctl.result = .busError ∧ t.profile i = s.profile i)) ∧
  (∀ (s : State) (l : LaneId) (want off : Nat) (got : List (Nat × List Byte)) (err : Bool) (x : ReadTxn)
      (resp : ReadResp),
    s.part ≠ .resetting → s.ctl.op = .reading (.laneRecord l) want got err →
    s.Outstanding (ReadOwner.isControl RecordKind.isLaneRecord off) x → (s.readFreed x).port.controlLeft = false →
    (∀ bs : List Byte, resp = .ok bs → bs.length = x.len) →
    ∃ t, exec (.laneRecordReadAnswered off resp) s = .next t ∧
      t.ctl.resState = .done ∧ t.ctl.done = true ∧ t.ctl.op = .none ∧
      SameButLane l s t ∧ t.panels = s.panels ∧ t.profiles = s.profiles ∧
      (∀ bs : List Byte, resp = .ok bs → err = false →
        let rec' := assemble (insertPart off bs got)
        (nat8 rec' 0 ≤ 7 ∧ 1 ≤ nat16 rec' 2 ∧ 1 ≤ nat8 rec' 1 ∧ nat8 rec' 1 ≤ 4 →
          t.ctl.result = .ok ∧ t.lane l = { s.lane l with
            rateCode := nat8 rec' 0, capacity := nat16 rec' 2, reserve := nat8 rec' 1
            reserveCredit := nat16 rec' 2 * nat8 rec' 1 / 8 }) ∧
        (¬ (nat8 rec' 0 ≤ 7 ∧ 1 ≤ nat16 rec' 2 ∧ 1 ≤ nat8 rec' 1 ∧ nat8 rec' 1 ≤ 4) →
          t.ctl.result = .badField ∧ t.lane l = s.lane l)) ∧
      (resp = .error ∨ err = true → t.ctl.result = .busError ∧ t.lane l = s.lane l)) ∧
  ∀ (s : State) (want off : Nat) (got : List (Nat × List Byte)) (err : Bool) (x : ReadTxn) (resp : ReadResp),
    s.part ≠ .resetting → s.ctl.op = .reading .tolerance want got err →
    s.Outstanding (ReadOwner.isControl RecordKind.isTolerance off) x → (s.readFreed x).port.controlLeft = false →
    (∀ bs : List Byte, resp = .ok bs → bs.length = x.len) →
    ∃ t, exec (.toleranceReadAnswered off resp) s = .next t ∧
      t.ctl.resState = .done ∧ t.ctl.done = true ∧ t.ctl.op = .none ∧
      t = { s with ctl := t.ctl, port := t.port, tol := t.tol } ∧
      (∀ bs : List Byte, resp = .ok bs → err = false →
        match parseTolerance (assemble (insertPart off bs got)) with
        | some rec' => t.ctl.result = .ok ∧ t.tol.record = rec' ∧ t.tol.loaded = true ∧
          (let d := (s.readFreed x).predictedIdle
           let comp : TolLevel := if rec'.highMin ≤ d then .high else if rec'.mediumMin ≤ d then .medium
             else if rec'.lowMin ≤ d then .low else .active
           (s.tol.level.rank ≤ comp.rank ∨ rec'.policy = .stepped → t.tol.level = comp) ∧
            (comp.rank < s.tol.level.rank → rec'.policy = .direct → t.tol.level = .active)) ∧
          (s.ctl.tolEnable = true → t.tol.inFlight = some (rec'.message t.tol.level) ∨
            t.tol.slot = some (rec'.message t.tol.level))
        | none => t.ctl.result = .badField ∧ t.tol.record = s.tol.record ∧ t.tol.loaded = s.tol.loaded) ∧
      (resp = .error ∨ err = true →
        t.ctl.result = .busError ∧ t.tol.record = s.tol.record ∧ t.tol.loaded = s.tol.loaded)

/-- The last answer of a descriptor read: the first of BIND's tests that fails gives the result, and with none failing BIND
ends with OK, the slot starts READY with the tabled values and its load joins its lane; any other result leaves every panel
record and every lane as it was. -/
def Obligations.BindStartsTheSlotOrLeavesIt : Prop :=
  (∀ bs : List Byte, parseDescriptor bs = {
    lane := nat8 bs 0, select := nat8 bs 1, profile := nat8 bs 2, intervalCode := nat8 bs 3
    width := nat16 bs 4, height := nat16 bs 6, tfa := nat16 bs 8, vsa := nat16 bs 10, bfa := nat16 bs 12
    budget := nat16 bs 14, allowance := nat16 bs 16, policy := nat8 bs 18, edge := nat8 bs 19, filter := nat8 bs 20
    skip := nat8 bs 21, hold := nat8 bs 22, teWatch := nat8 bs 23, fallback := nat8 bs 24, priority := nat8 bs 25
    chainStart := word32 bs 28 }) ∧
  ∀ (s : State) (p : PanelId) (want off : Nat) (got : List (Nat × List Byte)) (err : Bool) (x : ReadTxn)
      (resp : ReadResp),
    s.part ≠ .resetting → s.ctl.op = .reading (.descriptor p) want got err →
    s.Outstanding (ReadOwner.isControl RecordKind.isDescriptor off) x → (s.readFreed x).port.controlLeft = false →
    (∀ bs : List Byte, resp = .ok bs → bs.length = x.len) →
    ∃ t, exec (.descriptorReadAnswered off resp) s = .next t ∧
      t = { s.readFreed x with ctl := t.ctl, panels := t.panels, lanes := t.lanes, tol := t.tol } ∧
      t.ctl.resState = .done ∧ t.ctl.done = true ∧ t.ctl.op = .none ∧
      t.ctl.notify = s.ctl.notify ∧ t.ctl.fault = s.ctl.fault ∧ SameButPanel p s t ∧
      (resp = .error ∨ err = true → t.ctl.result = .busError) ∧
      (t.ctl.result ≠ .ok → t.panels = s.panels ∧ t.lanes = s.lanes) ∧
      (∀ bs : List Byte, resp = .ok bs → err = false →
        let tests := bindTests s (parseDescriptor (assemble (insertPart off bs got)))
        ((∀ c ∈ tests, c.1) → t.ctl.result = .ok) ∧
        ∀ (n : Nat) (c : Prop × Result), tests[n]? = some c → ¬ c.1 →
          (∀ m b, m < n → tests[m]? = some b → b.1) → t.ctl.result = c.2) ∧
      (t.ctl.result = .ok → ∃ bs : List Byte, resp = .ok bs ∧ err = false ∧
        let d := parseDescriptor (assemble (insertPart off bs got))
        let u := t.panel p
        u.state = .ready ∧ u.unbindPending = false ∧ u.parkWait = 0 ∧ u.window = [] ∧ u.head = .clear ∧
        u.cont = false ∧ u.display = .awake ∧ u.settle = 0 ∧ u.scroll = 0 ∧ u.fault = .none ∧
        u.cursor = .nextKnown d.chainStart ∧ u.access = .idle ∧ u.repoll = false ∧ u.credit = d.allowance ∧
        u.gateAt = none ∧
        (d.edge ≤ 2 ∧ u.tear.edge = if d.edge = 0 then .rising else if d.edge = 1 then .falling else .both) ∧
        (d.filter ≤ 3 ∧ u.tear.filter =
          if d.filter = 0 then .none else if d.filter = 1 then .two else if d.filter = 2 then .four else .eight) ∧
        u.tear.skip = d.skip ∧ u.tear.qualified = s.tePin p ∧ u.tear.run = 0 ∧ u.tear.state = .untracked ∧
        u.tear.budget = 0 ∧ u.tear.hold = 0 ∧ u.tear.skipCtr = 0 ∧ u.tear.watch = 0 ∧
        u.tear.armed = decide (0 < d.teWatch) ∧ u.tear.estimate = 0 ∧ u.tear.base = false ∧ u.tear.lastTe = 0 ∧
        u.desc.edge = u.tear.edge ∧ u.desc.filter = u.tear.filter ∧ u.desc.skip = d.skip ∧ u.desc.profile = u.profile ∧
        u.desc.tfa = d.tfa ∧ u.desc.vsa = d.vsa ∧ u.desc.bfa = d.bfa ∧ u.desc.hold = d.hold ∧
        u.desc.teWatch = d.teWatch ∧ u.desc.priority = d.priority ∧ u.desc.chainStart = d.chainStart ∧
        (d.policy ≤ 1 ∧ u.desc.policy = if d.policy = 0 then .off else .blank) ∧
        (d.fallback ≤ 1 ∧ u.desc.fallback = if d.fallback = 0 then .wait else .free) ∧
        u.desc.lane.val = d.lane ∧ u.desc.select.val = d.select ∧ u.profile.val = d.profile ∧
        u.desc.width = d.width ∧ u.desc.height = d.height ∧ u.desc.budget = d.budget ∧
        u.desc.allowance = d.allowance ∧ u.desc.intervalCode = d.intervalCode ∧
        0 < (s.lane u.desc.lane).capacity ∧ (s.profile u.profile).valid = true ∧
        (∀ q : PanelId, (s.panel q).bound = true → (s.panel q).desc.lane = u.desc.lane →
          (s.panel q).desc.select ≠ u.desc.select) ∧
        d.tfa + d.vsa + d.bfa = d.height ∧ ChainAddress d.chainStart ∧
        (d.policy = 1 → 3 + 4 * (s.profile u.profile).k + d.width * (s.profile u.profile).fmt.bpp ≤ d.budget) ∧
        3 + 4 * (s.profile u.profile).k + d.width * (s.profile u.profile).fmt.bpp ≤ d.allowance ∧
        41 ≤ d.allowance ∧
        SameButLane u.desc.lane s t ∧
        t.lane u.desc.lane = { s.lane u.desc.lane with
          committed := (s.lane u.desc.lane).committed + loadOf d.allowance (2 ^ d.intervalCode) } ∧
        (t.lane u.desc.lane).committed ≤ (s.lane u.desc.lane).periodicCapacity)

/-- PARK of a READY panel parks it at once when no transaction of it is in flight, and else makes it PARKING with park wait
16; RESUME makes a PARKED or HALTED panel READY, clears its fault code and asks for the poll of a watched link. -/
def Obligations.ParkAndResumeMoveThePanel : Prop :=
  (∀ (s : State) (p : PanelId), s.Accepts → (s.panel p).state = .ready →
    ∃ t, exec (.park (targetOf p)) s = .next t ∧
      t = { s with panels := t.panels, ctl := t.ctl, tol := t.tol } ∧ SameButPanel p s t ∧
      (s.inFlight p = false →
        t.panel p = { s.panel p with cont := false, state := .parked } ∧
        t.ctl = { s.ctl.accepted 0x12 (targetOf p) with resState := .done, done := true }) ∧
      (s.inFlight p = true →
        t.panel p = { s.panel p with cont := false, state := .parking, parkWait := 16 } ∧
        t.ctl = { s.ctl.accepted 0x12 (targetOf p) with op := .parkWait p })) ∧
  ∀ (s : State) (p : PanelId), s.Accepts → (s.panel p).state = .parked ∨ (s.panel p).state = .halted →
    ∃ x : State, exec (.resume (targetOf p)) s = .next x.commit ∧
      x = { s with panels := x.panels, ctl := x.ctl, port := x.port } ∧ SameButPanel p s x ∧
      x.ctl = { s.ctl.accepted 0x13 (targetOf p) with resState := .done, done := true } ∧
      let r := { s.panel p with fault := .none, state := .ready }
      ((s.panel p).access ≠ .idle → x.panel p = { r with resumePoll := true } ∧ x.port = s.port) ∧
      ((s.panel p).access = .idle → ∀ a : Word, (s.panel p).cursor = .nextKnown a → x.panel p = r ∧ x.port = s.port) ∧
      ((s.panel p).access = .idle → ∀ a : Word, (s.panel p).cursor = .watch a →
        (s.part = .running → x.panel p = { r with access := .polling } ∧
          x.port = { s.port with chainQ := s.port.chainQ ++ [{ owner := .link p, addr := a, len := 4 }] }) ∧
        (s.part = .stopped → x.panel p = { r with repoll := true } ∧ x.port = s.port))

/-- UNBIND and REWIND. Taken, each orders the abort of a transaction in flight: a SHIFTING lane finishes its byte, a STALLED
one deasserts at once, and in the other link states the abort finds nothing or comes too late; the report of the deassertion
keeps the cut rows for the ABORTED detail and writes nothing yet. Each waits while a transaction is in flight or a chain
access under way. Then UNBIND makes the panel UNBOUND, breaks every ARMED entry whose mask holds it with MEMBER_LOST, its own
arrived GATE among the tickets written, takes its load off the lane and writes the tickets of its window; REWIND withdraws
the arrival without a break, writes the window, an arrived GATE in it, and sets the record to the new chain. Each completes
when its writes are answered, with BUS_ERROR if one was answered ERROR, and UNBIND then clears the record. -/
def Obligations.UnbindAndRewindEndTheWindow : Prop :=
  (∀ (s : State) (p : PanelId), s.Accepts → (s.panel p).state ≠ .unbound →
    TakenAndCut s p (.unbind (targetOf p)) { s.panel p with unbindPending := true }
      { s.ctl.accepted 0x11 (targetOf p) with op := .unbindWait p } .unbind) ∧
  (∀ (s : State) (p : PanelId), s.Accepts → (s.panel p).state = .parked ∨ (s.panel p).state = .halted →
    ChainAddress s.ctl.arg →
    TakenAndCut s p (.rewind (targetOf p)) (s.panel p)
      { s.ctl.accepted 0x14 (targetOf p) with op := .rewindWait p s.ctl.arg } .rewind) ∧
  (∀ (s : State) (l : LaneId) (ldi : Half) (tx : Tx), s.part ≠ .resetting → (s.lane l).link = .aborting →
    (s.lane l).tx = some tx → (s.lane l).cause = some .unbind ∨ (s.lane l).cause = some .rewind →
    ∃ x : State, exec (.byteTimeEnd l ldi) s = .next x.commit ∧ x = { s with panels := x.panels, lanes := x.lanes } ∧
      x.lane l = s.cutLane l ∧ SameButLane l s x ∧ SameButPanel tx.panel s x ∧
      x.panel tx.panel = { s.panel tx.panel with
        cont := false, head := { (s.panel tx.panel).head with cut := tx.work.cutRows } }) ∧
  (∀ (s : State) (p : PanelId), s.inFlight p = true ∨ (s.panel p).access ≠ .idle →
    (s.ctl.op = .unbindWait p → s.advance = s) ∧ ∀ addr, s.ctl.op = .rewindWait p addr → s.advance = s) ∧
  (∀ (s : State) (p : PanelId) (front : PanelId → Entry), s.ctl.op = .unbindWait p → s.inFlight p = false →
    (s.panel p).access = .idle →
    let gs := s.lostGates p
    let l := (s.panel p).desc.lane
    s.Fronts gs front →
    ∃ y : State, s.advance = y.unbindFinish p ∧
      y = { s with
        panels := y.panels, lanes := y.lanes, gates := y.gates
        ctl := { s.ctl with op := .unbindWrites p }
        port := { s.port with writeQ := s.port.writeQ ++
          (s.brokenWrites gs front .memberLost (fun q => decide (q = p)) ++
            windowWrites p (s.broken gs p) .unbind) } } ∧
      (∀ q : PanelId, q ≠ p → y.panel q = s.broken gs q) ∧
      y.panel p = { s.broken gs p with state := .unbound, window := [], head := (y.panel p).head } ∧
      ((s.panel p).window ≠ [] → (y.panel p).head = .clear) ∧
      (∀ g : GateId, y.gate g = s.gateAfter gs g) ∧ SameButLane l s y ∧
      y.lane l = { s.lane l with committed := (s.lane l).committed - (s.panel p).desc.load }) ∧
  (∀ (s : State) (p : PanelId), (s.ctl.op = .unbindWrites p → s.advance = s.unbindFinish p) ∧
    (s.port.statusFor p = true → s.unbindFinish p = s) ∧
    (s.port.statusFor p = false → (((s.unbindFinish p).panel p).Cleared (s.tePin p)) ∧
      SameButPanel p s (s.unbindFinish p) ∧
      s.unbindFinish p = { s with panels := (s.unbindFinish p).panels, ctl := (s.complete s.ctl.writesDone).ctl })) ∧
  (∀ (s : State) (p : PanelId) (addr : Word), s.ctl.op = .rewindWait p addr → s.inFlight p = false →
    (s.panel p).access = .idle →
    ∃ y : State, s.advance = y.finishWrites s.ctl.writesDone ∧
      y = { s with
        panels := y.panels, gates := y.gates
        ctl := { s.ctl with op := .rewindWrites p }
        port := { s.port with writeQ := s.port.writeQ ++ windowWrites p (s.panel p) .rewind } } ∧
      SameButPanel p s y ∧
      (∀ g : GateId, (s.panel p).gateAt ≠ some g → y.gate g = s.gate g) ∧
      (∀ g : GateId, (s.panel p).gateAt = some g →
        let others := (s.gate g).list.filter (· ≠ p)
        (others = [] → y.gate g = Gate.free) ∧ (others ≠ [] → y.gate g = { s.gate g with list := others })) ∧
      y.panel p = { s.panel p with
        gateAt := none, cursor := .nextKnown addr, access := .idle, repoll := false, resumePoll := false
        fetched := none, window := [], head := .clear, cont := false, fault := .none, state := .parked }) ∧
  (∀ (s : State), (∀ p : PanelId, s.ctl.op = .rewindWrites p → s.advance = s.finishWrites s.ctl.writesDone) ∧
    ∀ res : Result, (s.port.statusOfRequest = true → s.finishWrites res = s) ∧
      (s.port.statusOfRequest = false → s.finishWrites res = { s with ctl := { s.ctl with
        resState := .done, result := res, done := true, op := .none, busErr := false } })) ∧
  ∀ (r : Panel) (e : Entry) (rest : List Entry), r.window = e :: rest →
    (∀ rect : Rect, e.ticket.body.rect? = some rect → r.abortDetail =
      (((r.piecesOf rect).take r.head.piece).map (·.rows)).sum + r.head.rows + r.head.cut) ∧
    (e.ticket.body.rect? = none → r.abortDetail = 0)

/-- REPORT writes the 64 bytes of the report record, taken when the request is, and completes when the write is answered;
nothing in any panel changes. -/
def Obligations.ReportWritesASnapshot : Prop :=
  [PanelState.unbound, .ready, .parked, .halted].map (·.code) = [0, 1, 3, 4] ∧
  [Display.awake, .settlingToAwake, .settlingToAsleep, .asleep].map (·.code) = [0, 1, 2, 3] ∧
  [TearState.untracked, .closed, .opened].map (·.code) = [0, 1, 2] ∧
  [FaultCode.none, .fetchError, .notPosted, .malformed, .linkBad, .pixelError, .writebackError, .teLost].map (·.code) =
    [0, 1, 2, 3, 4, 5, 6, 7] ∧
  (∀ a : Word, (Cursor.nextKnown a).code = 0 ∧ (Cursor.watch a).code = 1) ∧
  (∀ (rect : Rect) (source : Word) (stride : Nat) (fmt : SrcFmt) (colour : Rgb) (n : Nat) (code : Byte)
      (params : List Byte) (g : GateId) (mask : Half),
    [Body.draw rect source stride fmt, .fill rect colour, .scroll n, .send code params, .read code n, .sleep, .wake,
      .fence, .gate g mask n].map (·.kindCode) = [1, 2, 3, 4, 5, 6, 7, 8, 9]) ∧
  (∀ r : Panel, (r.window = [] → r.rowsDone = 0) ∧ ∀ (e : Entry) (rest : List Entry), r.window = e :: rest →
    (∀ rect : Rect, e.ticket.body.rect? = some rect → r.rowsDone =
      (((r.piecesOf rect).take r.head.piece).map (·.rows)).sum + r.head.rows) ∧
    (e.ticket.body.rect? = none → r.rowsDone = 0)) ∧
  (∀ (s : State) (p : PanelId), s.Accepts → ChainAddress s.ctl.arg →
    ∃ t data, exec (.report (targetOf p)) s = .next t ∧
      t = { s with ctl := t.ctl, port := t.port, tol := t.tol } ∧
      t.ctl = { s.ctl.accepted 0x15 (targetOf p) with op := .reporting } ∧
      t.port = { s.port with writeQ := s.port.writeQ ++ [{ kind := .report, addr := s.ctl.arg, data := data }] } ∧
      data.length = 64 ∧
      byteAt data 0 = (s.panel p).state.code ∧ byteAt data 1 = (s.panel p).display.code ∧
      byteAt data 2 = (s.panel p).tear.state.code ∧ byteAt data 3 = (s.panel p).fault.code ∧
      half16 data 4 = (if (s.panel p).tear.state = .opened then BitVec.ofNat 16 (s.panel p).tear.budget else 0) ∧
      half16 data 6 = BitVec.ofNat 16 (s.panel p).tear.estimate ∧ half16 data 8 = BitVec.ofNat 16 (s.panel p).credit ∧
      byteAt data 10 = BitVec.ofNat 8 (s.panel p).window.length ∧
      byteAt data 11 = (match (s.panel p).headTicket with | some t => t.body.kindCode | none => 0) ∧
      half16 data 12 = (match (s.panel p).headTicket with | some t => t.tag | none => 0) ∧
      half16 data 14 = BitVec.ofNat 16 (s.panel p).rowsDone ∧
      byteAt data 16 = (s.panel p).cursor.code ∧
      byteAt data 17 = (match (s.panel p).gateAt with | some g => BitVec.ofNat 8 g.val | none => 255) ∧
      half16 data 18 = BitVec.ofNat 16 (s.panel p).scroll ∧ word32 data 20 = (s.panel p).cursor.addr ∧
      word32 data 24 = (s.panel p).tear.lastTe ∧ ∀ i, 28 ≤ i → byteAt data i = 0) ∧
  ∀ (s : State) (w : WriteTxn) (rest : List WriteTxn) (resp : WriteResp), s.part ≠ .resetting →
    s.ctl.op = .reporting → s.port.outWrites = w :: rest → w.kind = .report →
    ∃ t, exec (.reportWriteAnswered resp) s = .next t ∧
      t = { s with ctl := t.ctl, port := { s.port with outWrites := rest }, tol := t.tol } ∧
      t.ctl = { s.ctl with
        resState := .done, result := if resp = .ok then .ok else .busError, done := true, op := .none, busErr := false }

/-- RETUNE_TE: the target is tested first, an UNBOUND panel gives NOT_BOUND, a field outside its listed values gives
BAD_FIELD, and else the settings are taken, the conditioner takes the pin without an event, and the channel enters
UNTRACKED with its watch armed at 0 when the TE watch value is above 0. -/
def Obligations.RetuneTeReplacesTheSettings : Prop :=
  ∀ (s : State), s.Accepts →
    (∀ target : Byte, 16 ≤ target.toNat → EndsWith (.retuneTe target) s .badField) ∧
    ∀ p : PanelId,
      let edge := (s.ctl.arg.extractLsb' 0 2).toNat
      let filter := (s.ctl.arg.extractLsb' 4 2).toNat
      let skip := (s.ctl.arg.extractLsb' 8 3).toNat
      ((s.panel p).state = .unbound → EndsWith (.retuneTe (targetOf p)) s .notBound) ∧
      ((s.panel p).state ≠ .unbound → edge = 3 ∨ skip = 0 ∨ 4 < skip →
        EndsWith (.retuneTe (targetOf p)) s .badField) ∧
      ((s.panel p).state ≠ .unbound → ¬ (edge = 3 ∨ skip = 0 ∨ 4 < skip) →
        ∃ t, exec (.retuneTe (targetOf p)) s = .next t ∧
          t = { s with panels := t.panels, ctl := t.ctl, tol := t.tol } ∧ SameButPanel p s t ∧
          t.ctl = { s.ctl.accepted 0x16 (targetOf p) with resState := .done, done := true } ∧
          t.panel p = { s.panel p with tear := { (s.panel p).tear with
            edge := if edge = 0 then .rising else if edge = 1 then .falling else .both
            filter := if filter = 0 then .none else if filter = 1 then .two else if filter = 2 then .four else .eight
            skip := skip, qualified := s.tePin p, run := 0, state := .untracked, budget := 0, hold := 0, skipCtr := 0
            watch := 0, armed := decide (0 < (s.panel p).desc.teWatch), estimate := 0, base := false
            meeting := .none } })

/-- BREAK_GATE of a FREE entry gives NOT_ARMED; of an ARMED one it breaks the entry with reason REQUEST: every listed GATE
ticket is written GATE_BROKEN in arrival order and leaves its window, the arrivals are cleared, the entry is FREE; the request
completes when those writes are answered. -/
def Obligations.BreakGateBreaksAnArmedEntry : Prop :=
  (∀ (s : State) (g : GateId), s.Accepts →
    let cmd := Instr.breakGate (BitVec.ofNat 8 g.val)
    let taken := s.setCtl (s.ctl.accepted 0x20 (BitVec.ofNat 8 g.val))
    ((s.gate g).armed = false → EndsWith cmd s .notArmed) ∧
    ((s.gate g).armed = true →
      exec cmd s = .next (State.commit ((taken.breakGate g .request fun _ => true).setOp (.breakWrites g)))) ∧
    ((s.gate g).armed = true → ∃ x : State, exec cmd s = .next x.commit ∧
      x.gate g = Gate.free ∧ (∀ h : GateId, h ≠ g → x.gate h = s.gate h) ∧
      x.ctl = { s.ctl.accepted 0x20 (BitVec.ofNat 8 g.val) with op := .breakWrites g } ∧
      (∀ q ∈ (s.gate g).list, (x.panel q).gateAt = none) ∧
      (∀ q : PanelId, (x.panel q).state = (s.panel q).state ∧ (x.panel q).tear = (s.panel q).tear) ∧
      x = { s with panels := x.panels, gates := x.gates, ctl := x.ctl, port := x.port } ∧
      ∀ front : PanelId → Entry, s.Fronts [g] front →
        (∀ q : PanelId, x.panel q = s.broken [g] q) ∧
        x.port = { s.port with writeQ := s.port.writeQ ++
          ((s.gate g).list.map fun q => finalWrite q true (front q, gateBroken .request)) })) ∧
  ∀ (s : State) (g : GateId), s.ctl.op = .breakWrites g →
    (s.port.statusOfRequest = true → s.advance = s) ∧
    (s.port.statusOfRequest = false → s.advance = s.complete s.ctl.writesDone)

/-! ### Chains and the memory port -/

/-- A nudge polls or marks each panel it names as the panel's state, cursor and access give, in whatever order the polls
are taken; while RESETTING it is ignored. -/
def Obligations.NudgePollsOrMarksEachPanel : Prop :=
  ∀ (m : Half) (s : State),
    (s.part = .resetting → exec (.nudge m) s = .next s) ∧
    (s.part ≠ .resetting → ∃ t, exec (.nudge m) s = .next t ∧
      t = { s with panels := t.panels, port := t.port, tol := t.tol, freeCount := t.freeCount } ∧
      (∀ p : PanelId,
        (nudgePolled m s p → t.panel p = { s.panel p with access := .polling }) ∧
        (nudgeMarked m s p → t.panel p = { s.panel p with repoll := true }) ∧
        (¬ nudgePolled m s p → ¬ nudgeMarked m s p → t.panel p = s.panel p)) ∧
      ∃ ps : List PanelId, ps.Nodup ∧ (∀ p : PanelId, p ∈ ps ↔ nudgePolled m s p) ∧
        t.port = { s.port with chainQ := s.port.chainQ ++ ps.map fun p =>
          { owner := .link p, addr := (s.panel p).cursor.addr, len := 4 } })

/-- A ticket fetch begins exactly when its conditions hold together: the access becomes FETCHING and one 64-byte read at
the cursor address is taken by the port, the cursor staying. -/
def Obligations.TicketFetchBeginsWhenItsConditionsHold : Prop :=
  ∀ (p : PanelId) (s : State),
    (∀ a : Word, s.part = .running → (s.panel p).state = .ready → (s.panel p).unbindPending = false →
      (s.panel p).cursor = .nextKnown a → (s.panel p).access = .idle → (s.panel p).window.length < 4 →
      ∃ t, exec (.ticketFetch p) s = .next t ∧
        t = { s with panels := t.panels, port := t.port, tol := t.tol } ∧ SameButPanel p s t ∧
        t.panel p = { s.panel p with access := .fetching } ∧
        t.port = { s.port with chainQ := s.port.chainQ ++ [{ owner := .ticket p, addr := a, len := 64 }] }) ∧
    (¬ (s.part = .running ∧ (s.panel p).state = .ready ∧ (s.panel p).unbindPending = false ∧
        (s.panel p).cursor.watching = false ∧ (s.panel p).access = .idle ∧ (s.panel p).window.length < 4) →
      exec (.ticketFetch p) s = .next s)

/-- The request arbiter sends from the first class that holds a sendable request: a pixel fetch of the first waiting lane
in round robin, the oldest write, the oldest chain read that is not held, the control read, and a control write when it is
the oldest write; with none of these nothing is sent. -/
def Obligations.PortSendsTheFirstSendableClass : Prop :=
  ∀ s : State, ∃ t, exec .memoryRequestSent s = .next t ∧ t = { s with port := t.port, tol := t.tol } ∧
    let q := s.port
    let reads := q.outReads.length < 8
    let writes := q.outWrites.length < 4
    let one := reads ∧ ∃ l : LaneId, q.pixQ[l] ≠ []
    let two := writes ∧ ∃ w rest, q.writeQ = w :: rest ∧ w.kind ≠ .report
    let three := reads ∧ ∃ x ∈ q.chainQ, notHeld q x
    let four := reads ∧ q.ctlQ ≠ []
    (one → ∃ (l : LaneId) (x : ReadTxn) (rest : List ReadTxn), q.pixQ[l] = x :: rest ∧
      t.port = { q with pixQ := q.pixQ.set l rest, outReads := q.outReads ++ [x], lastLane := l } ∧
      ∀ m : LaneId, q.pixQ[m] ≠ [] → (l - (q.lastLane + 1)).val ≤ (m - (q.lastLane + 1)).val) ∧
    (¬ one → two → ∃ w rest, q.writeQ = w :: rest ∧
      t.port = { q with writeQ := rest, outWrites := q.outWrites ++ [w] }) ∧
    (¬ one → ¬ two → three → ∃ before x after, q.chainQ = before ++ x :: after ∧ notHeld q x ∧
      (∀ y ∈ before, ¬ notHeld q y) ∧
      t.port = { q with chainQ := before ++ after, outReads := q.outReads ++ [x] }) ∧
    (¬ one → ¬ two → ¬ three → four → ∃ x rest, q.ctlQ = x :: rest ∧
      t.port = { q with ctlQ := rest, outReads := q.outReads ++ [x] }) ∧
    (¬ one → ¬ two → ¬ three → ¬ four → ∀ w rest, writes → q.writeQ = w :: rest →
      t.port = { q with writeQ := rest, outWrites := q.outWrites ++ [w] }) ∧
    (¬ one → ¬ two → ¬ three → ¬ four → ¬ (writes ∧ q.writeQ ≠ []) → exec .memoryRequestSent s = .next s)

/-- A response to a transaction that is not outstanding, a write response of another kind than the oldest outstanding
write's, and an OK read response with another byte count than its transaction's, stop the model (its choice, log 4: the bus
contract of R156 gives none of them). -/
def Obligations.ResponsesNobodyAwaitsAreFaults : Prop :=
  ∀ (s : State),
    (∀ (p : PanelId) (resp : ReadResp), (∀ x ∈ s.port.outReads, x.owner ≠ .ticket p) →
      exec (.ticketReadAnswered p resp) s = .fault .noSuchTransaction) ∧
    (∀ (p : PanelId) (resp : ReadResp), (∀ x ∈ s.port.outReads, x.owner ≠ .link p) →
      exec (.linkPollAnswered p resp) s = .fault .noSuchTransaction) ∧
    (∀ (l : LaneId) (b : BufId) (off : Nat) (resp : ReadResp), (∀ x ∈ s.port.outReads, x.owner ≠ .pixel l b off) →
      exec (.pixelFetchAnswered l b off resp) s = .fault .noSuchTransaction) ∧
    (∀ (off : Nat) (resp : ReadResp), (∀ x ∈ s.port.outReads, ∀ k : RecordKind, x.owner ≠ .control k off) →
      exec (.profileReadAnswered off resp) s = .fault .noSuchTransaction ∧
      exec (.laneRecordReadAnswered off resp) s = .fault .noSuchTransaction ∧
      exec (.toleranceReadAnswered off resp) s = .fault .noSuchTransaction ∧
      exec (.descriptorReadAnswered off resp) s = .fault .noSuchTransaction) ∧
    (∀ resp : WriteResp, s.port.outWrites = [] →
      exec (.takenWriteAnswered resp) s = .fault .noSuchTransaction ∧
      exec (.statusWriteAnswered resp) s = .fault .noSuchTransaction ∧
      exec (.replyWriteAnswered resp) s = .fault .noSuchTransaction ∧
      exec (.reportWriteAnswered resp) s = .fault .noSuchTransaction) ∧
    (∀ (p : PanelId) (x : ReadTxn) (bs : List Byte), s.Outstanding (· == .ticket p) x → bs.length ≠ x.len →
      exec (.ticketReadAnswered p (.ok bs)) s = .fault .wrongLength) ∧
    (∀ (p : PanelId) (x : ReadTxn) (bs : List Byte), s.Outstanding (· == .link p) x → bs.length ≠ x.len →
      exec (.linkPollAnswered p (.ok bs)) s = .fault .wrongLength) ∧
    (∀ (l : LaneId) (b : BufId) (off : Nat) (x : ReadTxn) (bs : List Byte),
      s.Outstanding (ReadOwner.isPixel l b off) x → bs.length ≠ x.len →
      exec (.pixelFetchAnswered l b off (.ok bs)) s = .fault .wrongLength) ∧
    (∀ (off : Nat) (x : ReadTxn) (bs : List Byte), bs.length ≠ x.len →
      (s.Outstanding (ReadOwner.isControl RecordKind.isProfile off) x →
        exec (.profileReadAnswered off (.ok bs)) s = .fault .wrongLength) ∧
      (s.Outstanding (ReadOwner.isControl RecordKind.isLaneRecord off) x →
        exec (.laneRecordReadAnswered off (.ok bs)) s = .fault .wrongLength) ∧
      (s.Outstanding (ReadOwner.isControl RecordKind.isTolerance off) x →
        exec (.toleranceReadAnswered off (.ok bs)) s = .fault .wrongLength) ∧
      (s.Outstanding (ReadOwner.isControl RecordKind.isDescriptor off) x →
        exec (.descriptorReadAnswered off (.ok bs)) s = .fault .wrongLength)) ∧
    ∀ (w : WriteTxn) (rest : List WriteTxn) (resp : WriteResp), s.port.outWrites = w :: rest →
      ((∀ p, w.kind ≠ .taken p) → exec (.takenWriteAnswered resp) s = .fault .noSuchTransaction) ∧
      ((∀ p st notify ofRequest, w.kind ≠ .status p st notify ofRequest) →
        exec (.statusWriteAnswered resp) s = .fault .noSuchTransaction) ∧
      ((∀ p, w.kind ≠ .reply p) → exec (.replyWriteAnswered resp) s = .fault .noSuchTransaction) ∧
      (w.kind ≠ .report → exec (.reportWriteAnswered resp) s = .fault .noSuchTransaction)

/-- A halting fault writes its code and sets the FAULT bit, and moves the panel as the state it is in gives; a PARKING
panel's PARK ends with BAD_STATE; every ARMED entry whose mask holds a panel that becomes HALTED breaks, each listed ticket
written GATE_BROKEN/MEMBER_LOST; but for its own arrived GATE the panel keeps its window and head. -/
def Obligations.HaltingFaultsFollowTheTable : Prop :=
  ∀ (s : State) (p : PanelId) (code : FaultCode), ∃ t, t = s.haltFault p code ∧
    hasPanel t.ctl.fault p = true ∧ (∀ q : PanelId, q ≠ p → hasPanel t.ctl.fault q = hasPanel s.ctl.fault q) ∧
    t.ctl.notify = s.ctl.notify ∧ t.part = s.part ∧ t.lanes = s.lanes ∧ t.timer = s.timer ∧
    (t.panel p).state = (s.panel p).state.afterHalt ∧
    (t.panel p).fault = (if (s.panel p).state = .unbound then (s.panel p).fault else code) ∧
    (t.panel p).display = (s.panel p).display ∧ (t.panel p).settle = (s.panel p).settle ∧
    (t.panel p).scroll = (s.panel p).scroll ∧ (t.panel p).cursor = (s.panel p).cursor ∧
    (∀ q : PanelId, q ≠ p → (t.panel q).state = (s.panel q).state ∧ (t.panel q).fault = (s.panel q).fault) ∧
    ((s.panel p).state = .ready ∨ (s.panel p).state = .parking →
      ∀ g : GateId, (s.gate g).armed = true → hasPanel (s.gate g).mask p = true → t.gate g = Gate.free) ∧
    ((s.panel p).state = .parking → s.ctl.op = .parkWait p ∨ s.ctl.op = .parkForced p →
      t.ctl.resState = .done ∧ t.ctl.result = .badState ∧ t.ctl.op = .none ∧ (t.panel p).parkWait = 0) ∧
    ((s.panel p).state = .parked ∨ (s.panel p).state = .halted ∨ (s.panel p).state = .unbound →
      t.gates = s.gates ∧ t.port = s.port ∧ t.ctl = { s.ctl with fault := t.ctl.fault } ∧
      (t.panel p).window = (s.panel p).window) ∧
    ((s.panel p).state = .ready ∨ (s.panel p).state = .parking → ∀ front : PanelId → Entry,
      let gs := s.lostGates p
      s.Fronts gs front →
        (∀ q : PanelId, t.panel q = { s.broken gs q with
          state := (t.panel q).state, fault := (t.panel q).fault, parkWait := (t.panel q).parkWait }) ∧
        (∀ g : GateId, t.gate g = s.gateAfter gs g) ∧
        t.port = { s.port with writeQ := s.port.writeQ ++ s.haltWrites p front })

/-- When one event ends tickets of a panel, their final status writes are issued in chain order, each with the state,
reason and detail of its ending, the tickets leave the window with their writes, and the head progress is cleared exactly
when the head leaves; nothing else changes. -/
def Obligations.EndedTicketsAreWrittenOnceInChainOrder : Prop :=
  [Status.posted, .taken, .done, .doneLate, .superseded, .expired, .cancelled, .aborted, .gateBroken, .failed].map
    (·.code) = [0, 1, 2, 3, 4, 5, 6, 7, 8, 9] ∧
  [Reason.none, .malformed, .badRect, .badScroll, .noCode, .badGate, .gateMismatch, .pixelError, .unbind, .parkForced,
    .rewind, .timeout, .memberLost, .request].map (·.code) = [0, 1, 2, 3, 4, 5, 6, 7, 8, 9, 10, 11, 12, 13] ∧
  ∀ (s : State) (p : PanelId) (sel : Nat → Entry → Option Final) (ofRequest : Bool),
    let t := s.endTickets p sel ofRequest
    let w := (s.panel p).window.zipIdx
    t = { s with panels := t.panels, port := t.port } ∧ SameButPanel p s t ∧
    t.port = { s.port with writeQ := s.port.writeQ ++
      (w.filterMap fun e => (sel e.2 e.1).map fun f => finalWrite p ofRequest (e.1, f)) } ∧
    t.panel p = { s.panel p with window := (t.panel p).window, head := (t.panel p).head } ∧
    (t.panel p).window = (w.filterMap fun e => if (sel e.2 e.1).isSome then none else some e.1) ∧
    (∀ e rest, (s.panel p).window = e :: rest →
      (t.panel p).head = if (sel 0 e).isSome then Head.clear else (s.panel p).head) ∧
    ((s.panel p).window = [] → (t.panel p).head = (s.panel p).head)

/-- The answer to a ticket read, each outcome with its writes, cursor, fault and window. ERROR and a status that is not POSTED
write nothing to the ticket and leave the cursor; a MALFORMED ticket is written FAILED/MALFORMED and the cursor goes past it;
a valid ticket is written TAKEN. None of the first three enters the window: the only other writes are those of the gate
entries that the halt breaks, and the only entry that leaves is the panel's own arrived GATE. A ticket is MALFORMED exactly
on the conditions listed, and else its copy has the fields of its bytes. -/
def Obligations.TicketReadsHaveFourOutcomes : Prop :=
  (∀ (addr : Word) (bs : List Byte), parseTicket addr bs = none ↔ MalformedTicket bs) ∧
  (∀ bs : List Byte, (ticketPosted bs = true ↔ nat8 bs 8 = 0) ∧ (ticketLink bs).toNat =
    nat8 bs 0 + 256 * nat8 bs 1 + 65536 * nat8 bs 2 + 16777216 * nat8 bs 3) ∧
  (∀ (addr : Word) (bs : List Byte) (tk : Ticket), parseTicket addr bs = some tk →
    let flag (i : Nat) : Bool := (byteAt bs 5).getLsbD i
    let rect : Rect := { x := nat16 bs 16, y := nat16 bs 18, w := nat16 bs 20, h := nat16 bs 22 }
    tk = {
      addr := addr, body := tk.body, notify := flag 0, keep := flag 1, align := flag 3
      latest := if flag 2 = true then some (word32 bs 12) else none, tag := half16 bs 6 } ∧
    (nat8 bs 4 = 1 → tk.body = .draw rect (word32 bs 24) (nat16 bs 28)
      (if nat8 bs 30 = 0 then .s16 else if nat8 bs 30 = 1 then .s24 else .s32)) ∧
    (nat8 bs 4 = 2 → tk.body = .fill rect { r := byteAt bs 24, g := byteAt bs 25, b := byteAt bs 26 }) ∧
    (nat8 bs 4 = 3 → tk.body = .scroll (nat16 bs 16)) ∧
    (nat8 bs 4 = 4 → tk.body = .send (byteAt bs 16) ((bs.drop 18).take (nat8 bs 17))) ∧
    (nat8 bs 4 = 5 → tk.body = .read (byteAt bs 16) (nat8 bs 17)) ∧ (nat8 bs 4 = 6 → tk.body = .sleep) ∧
    (nat8 bs 4 = 7 → tk.body = .wake) ∧ (nat8 bs 4 = 8 → tk.body = .fence) ∧
    (nat8 bs 4 = 9 → ∃ g : GateId, g.val = nat8 bs 16 ∧ tk.body = .gate g (half16 bs 18) (nat8 bs 17))) ∧
  ∀ (s : State) (p : PanelId) (x : ReadTxn), s.part ≠ .resetting → s.Outstanding (· == .ticket p) x →
    let s1 := s.readFreed x
    let a := (s.panel p).cursor.addr
    let gs := s.haltGates p
    let halted (y : State) (cursor : Cursor) (code : FaultCode) (own : List WriteTxn) : Prop :=
      (y.panel p).cursor = cursor ∧ (y.panel p).access = .idle ∧ (y.panel p).resumePoll = false ∧
      (y.panel p).state = (s.panel p).state.afterHalt ∧
      ((s.panel p).bound = true → (y.panel p).fault = code) ∧
      (∀ q : PanelId, hasPanel y.ctl.fault q = (hasPanel s.ctl.fault q || q == p)) ∧
      y = { s1 with panels := y.panels, gates := y.gates, ctl := y.ctl, port := y.port } ∧
      (∀ g : GateId, y.gate g = s.gateAfter gs g) ∧
      ∀ front : PanelId → Entry, s.Fronts gs front →
        (∀ q : PanelId, (y.panel q).window = (s.broken gs q).window ∧ (y.panel q).head = (s.broken gs q).head) ∧
        (∀ q : PanelId, q ≠ p → y.panel q = s.broken gs q) ∧
        y.port = { s1.port with writeQ := s.port.writeQ ++ own ++ s.haltWrites p front }
    (∃ y : State, exec (.ticketReadAnswered p .error) s = .next y.commit ∧
      halted y (s.panel p).cursor .fetchError []) ∧
    (∀ bs : List Byte, bs.length = x.len → ticketPosted bs = false →
      ∃ y : State, exec (.ticketReadAnswered p (.ok bs)) s = .next y.commit ∧
        halted y (s.panel p).cursor .notPosted []) ∧
    (∀ bs : List Byte, bs.length = x.len → ticketPosted bs = true → MalformedTicket bs →
      ∃ y : State, exec (.ticketReadAnswered p (.ok bs)) s = .next y.commit ∧
        halted y (if ChainAddress (ticketLink bs) then .nextKnown (ticketLink bs) else .watch a) .malformed
          [{ kind := .status p .failed (ticketFlag bs 0) false, addr := a + 8, data := [9, 1, 0, 0] }]) ∧
    ∀ (bs : List Byte) (tk : Ticket), bs.length = x.len → ticketPosted bs = true → parseTicket a bs = some tk →
      tk.addr = a ∧
      exec (.ticketReadAnswered p (.ok bs)) s = .next (State.commit (State.setPanel
        { s1 with port := { s1.port with
          writeQ := s.port.writeQ ++ [{ kind := .taken p, addr := a + 8, data := [1, 0, 0, 0] }] } }
        p { s.panel p with fetched := some (tk, ticketLink bs) }))

/-- The answer to a TAKEN write: OK takes the ticket, which joins the window behind the tickets that its take does not
supersede, and moves the cursor by the link; with a bad link the ticket is taken all the same and LINK_BAD is raised; ERROR
leaves cursor and window, returns the access to IDLE and raises WRITEBACK_ERROR. A RESUME that waited on the access has its
poll with link 0, while RUNNING, and its repoll mark while STOPPED. Only a gate entry that a halt breaks takes
a ticket more out of a window. -/
def Obligations.TakenAnswersTakeTheTicket : Prop :=
  ∀ (s : State) (p : PanelId) (w : WriteTxn) (rest : List WriteTxn) (tk : Ticket) (link : Word),
    s.part ≠ .resetting → s.port.outWrites = w :: rest → w.kind = .taken p → (s.panel p).fetched = some (tk, link) →
    let r := s.panel p
    let gs := s.haltGates p
    (link = 0 ∨ ChainAddress link →
      ∃ x : State, exec (.takenWriteAnswered .ok) s = .next x.commit ∧ SameButPanel p s x ∧
        (x.panel p).cursor = (if ChainAddress link then .nextKnown link else .watch tk.addr) ∧
        (x.panel p).fetched = none ∧ (x.panel p).state = r.state ∧ (x.panel p).fault = r.fault ∧ x.ctl = s.ctl ∧
        (let asked := r.resumePoll = true ∧ r.state = .ready ∧ r.unbindPending = false ∧ link = 0
         (x.panel p).resumePoll = false ∧
          (asked → s.part = .running → (x.panel p).access = .polling ∧ (x.panel p).repoll = r.repoll ∧
            x.port.chainQ = s.port.chainQ ++ [{ owner := .link p, addr := tk.addr, len := 4 }]) ∧
          (asked → s.part = .stopped → (x.panel p).access = .idle ∧ (x.panel p).repoll = true ∧
            x.port.chainQ = s.port.chainQ) ∧
          (¬ asked → (x.panel p).access = .idle ∧ (x.panel p).repoll = r.repoll ∧ x.port.chainQ = s.port.chainQ)) ∧
        (tk.body.rect? = none → (x.panel p).window = r.window ++ [{ ticket := tk, due := false }]) ∧
        (∀ new : Rect, tk.body.rect? = some new →
          (x.panel p).window = (r.window.zipIdx.filterMap fun e =>
            if (supersedes r.desc r.head.started r.window new e.2 e.1).isSome then none else some e.1) ++
            [{ ticket := tk, due := false }] ∧
          x.port.writeQ = s.port.writeQ ++ r.window.zipIdx.filterMap fun e =>
            (supersedes r.desc r.head.started r.window new e.2 e.1).map fun f => finalWrite p false (e.1, f))) ∧
    (¬ (link = 0 ∨ ChainAddress link) →
      ∃ x : State, exec (.takenWriteAnswered .ok) s = .next x.commit ∧
        (x.panel p).cursor = .watch tk.addr ∧ (x.panel p).fetched = none ∧ (x.panel p).access = .idle ∧
        (x.panel p).state = r.state.afterHalt ∧ (r.bound = true → (x.panel p).fault = .linkBad) ∧
        hasPanel x.ctl.fault p = true ∧
        ∀ front : PanelId → Entry, s.Fronts gs front → (p ∈ s.listed gs → (front p).ticket.body.isGate = true) →
          let out : Nat := if p ∈ s.listed gs then 1 else 0
          (tk.body.rect? = none →
            (x.panel p).window = List.drop out (r.window ++ [{ ticket := tk, due := false }]) ∧
            x.port.writeQ = s.port.writeQ ++ s.haltWrites p front) ∧
          ∀ new : Rect, tk.body.rect? = some new →
            (x.panel p).window = List.drop out ((r.window.zipIdx.filterMap fun e =>
              if (supersedes r.desc r.head.started r.window new e.2 e.1).isSome then none else some e.1) ++
              [{ ticket := tk, due := false }]) ∧
            x.port.writeQ = s.port.writeQ ++ (r.window.zipIdx.filterMap fun e =>
              (supersedes r.desc r.head.started r.window new e.2 e.1).map fun f => finalWrite p false (e.1, f)) ++
              s.haltWrites p front) ∧
    ∃ x : State, exec (.takenWriteAnswered .error) s = .next x.commit ∧
      (x.panel p).cursor = r.cursor ∧ (x.panel p).fetched = none ∧ (x.panel p).access = .idle ∧
      (x.panel p).state = r.state.afterHalt ∧
      (r.bound = true → (x.panel p).fault = .writebackError) ∧ hasPanel x.ctl.fault p = true ∧
      ((∀ g : GateId, p ∉ (s.gate g).list) → (x.panel p).window = r.window) ∧
      ∀ front : PanelId → Entry, s.Fronts gs front → (x.panel p).window = (s.broken gs p).window ∧
        x.port.writeQ = s.port.writeQ ++ s.haltWrites p front

/-- The answer to a link poll, row by row: link 0 with the repoll mark clear or set, a link that can be followed, a bad
link, ERROR. That the new poll (or the mark kept) of link 0 with the repoll mark set serves a RESUME that waits, too, is the
model's choice, log 11. -/
def Obligations.LinkPollAnswersMoveTheCursor : Prop :=
  ∀ (s : State) (p : PanelId) (x : ReadTxn) (a : Word), s.part ≠ .resetting → s.Outstanding (· == .link p) x →
    (s.panel p).cursor = .watch a →
    let s1 := s.readFreed x
    let r := { s.panel p with resumePoll := false }
    let polled := { s1.port with chainQ := s.port.chainQ ++ [{ owner := .link p, addr := a, len := 4 }] }
    (∀ bs : List Byte, bs.length = x.len → word32 bs 0 = 0 →
      ∃ y : State, exec (.linkPollAnswered p (.ok bs)) s = .next y.commit ∧ SameButPanel p s y ∧
        ((s.panel p).resumePoll = false → r.repoll = false → y = s1.setPanel p { r with access := .idle }) ∧
        ((s.panel p).resumePoll = true → r.repoll = false → r.active = true → s.part = .running →
          y.panel p = { r with access := .polling } ∧ y.port = polled) ∧
        ((s.panel p).resumePoll = true → r.repoll = false → r.active = true → s.part = .stopped →
          y = s1.setPanel p { r with access := .idle, repoll := true }) ∧
        ((s.panel p).resumePoll = true → r.repoll = false → r.active = false →
          y = s1.setPanel p { r with access := .idle }) ∧
        (r.repoll = true → r.active = true → s.part = .running →
          y.panel p = { r with access := .polling, repoll := false } ∧ y.port = polled) ∧
        (r.repoll = true → r.active = true → s.part = .stopped → y = s1.setPanel p { r with access := .idle }) ∧
        (r.repoll = true → r.active = false → y = s1.setPanel p { r with access := .idle, repoll := false })) ∧
    (∀ bs : List Byte, bs.length = x.len → ChainAddress (word32 bs 0) →
      exec (.linkPollAnswered p (.ok bs)) s =
        .next ((s1.setPanel p { r with access := .idle, repoll := false, cursor := .nextKnown (word32 bs 0) }).commit)) ∧
    (∀ bs : List Byte, bs.length = x.len → word32 bs 0 ≠ 0 → ¬ ChainAddress (word32 bs 0) →
      ∃ y : State, exec (.linkPollAnswered p (.ok bs)) s = .next y.commit ∧ hasPanel y.ctl.fault p = true ∧
        (y.panel p).cursor = .watch a ∧ (y.panel p).access = .idle ∧ (y.panel p).repoll = false ∧
        (y.panel p).state = r.state.afterHalt ∧ (r.bound = true → (y.panel p).fault = .linkBad)) ∧
    ∃ y : State, exec (.linkPollAnswered p .error) s = .next y.commit ∧ hasPanel y.ctl.fault p = true ∧
      (y.panel p).cursor = .watch a ∧ (y.panel p).access = .idle ∧ (y.panel p).repoll = false ∧
      (y.panel p).state = r.state.afterHalt ∧ (r.bound = true → (y.panel p).fault = .fetchError)

/-- The answers to status and reply writes: OK sets NOTIFY and FAULT by the ticket and the state written, ERROR raises
WRITEBACK_ERROR and sets no NOTIFY bit; a reply answered OK changes nothing. -/
def Obligations.StatusAnswersSetNotifyAndFault : Prop :=
  ∀ (s : State) (w : WriteTxn) (rest : List WriteTxn) (p : PanelId), s.part ≠ .resetting →
    s.port.outWrites = w :: rest →
    let s1 := s.writeFreed rest
    (∀ (st : Status) (notify ofRequest : Bool), w.kind = .status p st notify ofRequest →
      (∃ x : State, exec (.statusWriteAnswered .ok) s = .next x.commit ∧ x = { s1 with ctl := x.ctl } ∧
        x.ctl = { s.ctl with notify := x.ctl.notify, fault := x.ctl.fault } ∧
        (∀ q : PanelId, hasPanel x.ctl.notify q = (hasPanel s.ctl.notify q || (notify && q == p))) ∧
        ∀ q : PanelId, hasPanel x.ctl.fault q = (hasPanel s.ctl.fault q ||
          (decide (st = .failed ∨ st = .aborted ∨ st = .gateBroken) && q == p))) ∧
      ∃ x : State, exec (.statusWriteAnswered .error) s = .next x.commit ∧
        x.ctl.notify = s.ctl.notify ∧ hasPanel x.ctl.fault p = true ∧
        (x.panel p).state = (s.panel p).state.afterHalt ∧
        ((s.panel p).bound = true → (x.panel p).fault = .writebackError) ∧
        (ofRequest = true → x.ctl.busErr = true)) ∧
    (w.kind = .reply p →
      exec (.replyWriteAnswered .ok) s = .next s1.commit ∧
      exec (.replyWriteAnswered .error) s = .next ((s1.haltFault p .writebackError).commit))

/-! ### Heads, supersede and gates -/

/-- An earlier ticket is superseded at a take exactly when it is an unstarted DRAW or FILL without KEEP, its rectangle lies
wholly inside the new one, both rectangles are sound, and no other kind of ticket stands between them. The take appends the
new ticket, writes every superseded one SUPERSEDED with detail 0 and keeps the others, whatever state the panel is in; a
ticket of another kind supersedes nothing. -/
def Obligations.SupersedeFollowsItsTest : Prop :=
  (∀ (s : State) (p : PanelId) (tk : Ticket),
    let r := s.panel p
    let t := s.take p tk
    t = { s with panels := t.panels, port := t.port } ∧ SameButPanel p s t ∧
    (tk.body.rect? = none → t.port = s.port ∧
      t.panel p = { r with window := r.window ++ [{ ticket := tk, due := false }] }) ∧
    ∀ new : Rect, tk.body.rect? = some new →
      (t.panel p).window = (r.window.zipIdx.filterMap fun e =>
        if (supersedes r.desc r.head.started r.window new e.2 e.1).isSome then none else some e.1) ++
        [{ ticket := tk, due := false }] ∧
      t.port = { s.port with writeQ := s.port.writeQ ++ (r.window.zipIdx.filterMap fun e =>
        (supersedes r.desc r.head.started r.window new e.2 e.1).map fun f => finalWrite p false (e.1, f)) }) ∧
  ∀ (d : Descriptor) (started : Bool) (old : List Entry) (new : Rect) (i : Nat) (e : Entry), i < old.length →
    let sound (r : Rect) := 1 ≤ r.w ∧ 1 ≤ r.h ∧ r.x + r.w ≤ d.width ∧ r.y + r.h ≤ d.height
    (supersedes d started old new i e = some { state := .superseded, reason := .none, detail := 0 } ↔
      ∃ r : Rect, e.ticket.body.rect? = some r ∧ ¬ (started = true ∧ i = 0) ∧ e.ticket.keep = false ∧
        (new.x ≤ r.x ∧ new.y ≤ r.y ∧ r.x + r.w ≤ new.x + new.w ∧ r.y + r.h ≤ new.y + new.h) ∧
        sound r ∧ sound new ∧
        ∀ j f, i < j → old[j]? = some f → ∃ r' : Rect, f.ticket.body.rect? = some r') ∧
    (∀ f : Final, supersedes d started old new i e = some f →
      f = { state := .superseded, reason := .none, detail := 0 })

/-- A SCROLL head is checked in the order vsa 0, no scroll code, offset out of range, and the first check that fails gives
its FAILED status with detail 0; the ending leaves the panel's state as it is. The checks of the other kinds of head
stand beside it. -/
def Obligations.HeadChecksGiveTheFirstFailure : Prop :=
  ∀ (d : Descriptor) (pf : Profile),
    (∀ o : Nat,
      (d.vsa = 0 → headCheck d pf (.scroll o) = some { state := .failed, reason := .badScroll, detail := 0 }) ∧
      (d.vsa ≠ 0 → pf.scrollCode = none →
        headCheck d pf (.scroll o) = some { state := .failed, reason := .noCode, detail := 0 }) ∧
      (d.vsa ≠ 0 → pf.scrollCode ≠ none → d.vsa ≤ o →
        headCheck d pf (.scroll o) = some { state := .failed, reason := .badScroll, detail := 0 }) ∧
      (o < d.vsa → pf.scrollCode ≠ none → headCheck d pf (.scroll o) = none)) ∧
    (∀ (tk : Ticket) (o : Nat), tk.body = .scroll o → tk.headAct d pf = (headCheck d pf (.scroll o)).map .final) ∧
    (∀ (s : State) (p : PanelId) (f : Final),
      ((s.endHead p f false).panel p).state = (s.panel p).state ∧
      ((s.endHead p f false).panel p).scroll = (s.panel p).scroll) ∧
    (∀ (r : Rect) (b : Body), b.rect? = some r →
      (headCheck d pf b = none ↔ 1 ≤ r.w ∧ 1 ≤ r.h ∧ r.x + r.w ≤ d.width ∧ r.y + r.h ≤ d.height) ∧
      (headCheck d pf b ≠ none → headCheck d pf b = some { state := .failed, reason := .badRect, detail := 0 })) ∧
    headCheck d pf .sleep =
      (if pf.sleepCode = none then some { state := .failed, reason := .noCode, detail := 0 } else none) ∧
    headCheck d pf .wake =
      (if pf.wakeCode = none then some { state := .failed, reason := .noCode, detail := 0 } else none) ∧
    (∀ (code : Byte) (params : List Byte), headCheck d pf (.send code params) = none) ∧
    ∀ (code : Byte) (count : Nat), headCheck d pf (.read code count) = none

/-- The arrival of a GATE head, the first test that applies giving the outcome: BAD_GATE, GATE_MISMATCH, member lost, and
else the arrival joins the entry, which it arms when FREE and releases when it completes the mask: every listed GATE ticket
is then written DONE in arrival order. -/
def Obligations.GateArrivalsFollowTheirTests : Prop :=
  ∀ (s : State) (p : PanelId) (g : GateId) (mask : Half) (timeout : Nat) (align : Bool),
    let e := s.gate g
    let t := s.arrive p g mask timeout align
    let lost := ∃ q : PanelId, hasPanel mask q = true ∧ ((s.panel q).state = .unbound ∨ (s.panel q).state = .halted)
    let joined : Gate :=
      if e.armed = true then { e with list := e.list ++ [p] }
      else { armed := true, mask := mask, list := [p], timeout := if timeout = 0 then none else some timeout, align := align }
    let arrived := (s.setGate g joined).setPanel p { s.panel p with
      gateAt := some g, head := { (s.panel p).head with started := true } }
    (hasPanel mask p = false → t = s.endHead p { state := .failed, reason := .badGate, detail := 0 } false) ∧
    (hasPanel mask p = true → e.armed = true → e.mask ≠ mask →
      t = s.endHead p { state := .failed, reason := .gateMismatch, detail := 0 } false) ∧
    (hasPanel mask p = true → ¬ (e.armed = true ∧ e.mask ≠ mask) → lost →
      t = (s.breakGate g .memberLost fun _ => false).endHead p
        { state := .gateBroken, reason := .memberLost, detail := 0 } false) ∧
    (hasPanel mask p = true → ¬ (e.armed = true ∧ e.mask ≠ mask) → ¬ lost →
      ((∃ q : PanelId, hasPanel joined.mask q = true ∧ q ∉ joined.list) → t = arrived) ∧
      ((∀ q : PanelId, hasPanel joined.mask q = true → q ∈ joined.list) →
        t = arrived.release g ∧ t.gate g = Gate.free ∧ (t.panel p).gateAt = none ∧
        ∀ front : PanelId → Entry, joined.list.Nodup →
          (∀ q ∈ joined.list, (s.panel q).window.head? = some (front q)) →
          t.port = { s.port with writeQ := s.port.writeQ ++
            (joined.list.map fun q => finalWrite q false (front q, { state := .done, reason := .none, detail := 0 })) } ∧
          ∀ q ∈ joined.list, (t.panel q).gateAt = none ∧ (t.panel q).window = (s.panel q).window.drop 1))

/-- The release and the break of an entry write the listed GATE tickets in arrival order, DONE or GATE_BROKEN with the
reason, clear the arrivals and leave the entry FREE; the ALIGN close changes an OPEN channel of a member to CLOSED with
budget and hold 0 and nothing else, and a break closes no window. -/
def Obligations.GateReleasesAndBreaksWriteInArrivalOrder : Prop :=
  ∀ (s : State) (g : GateId) (front : PanelId → Entry), (s.gate g).list.Nodup →
    (∀ q ∈ (s.gate g).list, (s.panel q).window.head? = some (front q)) →
    let e := s.gate g
    (∃ t, t = s.release g ∧ t.gate g = Gate.free ∧ t.lanes = s.lanes ∧
      t.port = { s.port with writeQ := s.port.writeQ ++
        (e.list.map fun q => finalWrite q false (front q, { state := .done, reason := .none, detail := 0 })) } ∧
      (∀ q ∈ e.list, (t.panel q).gateAt = none ∧ (t.panel q).window = (s.panel q).window.drop 1) ∧
      ∀ q : PanelId,
        (e.align = true → hasPanel e.mask q = true → (s.panel q).tear.state = .opened →
          (t.panel q).tear = { (s.panel q).tear with state := .closed, budget := 0, hold := 0 }) ∧
        (e.align = false ∨ hasPanel e.mask q = false ∨ (s.panel q).tear.state ≠ .opened →
          (t.panel q).tear = (s.panel q).tear)) ∧
    ∀ (reason : Reason) (own : PanelId → Bool), ∃ t, t = s.breakGate g reason own ∧ t.gate g = Gate.free ∧
      t.lanes = s.lanes ∧
      t.port = { s.port with writeQ := s.port.writeQ ++
        (e.list.map fun q =>
          finalWrite q (own q) (front q, { state := .gateBroken, reason := reason, detail := 0 })) } ∧
      (∀ q ∈ e.list, (t.panel q).gateAt = none ∧ (t.panel q).window = (s.panel q).window.drop 1) ∧
      ∀ q : PanelId, (t.panel q).tear = (s.panel q).tear ∧ (t.panel q).state = (s.panel q).state

/-! ### The lane scheduler and the lanes -/

/-- A panel is eligible exactly on its listed conditions, and the winner of a decision is an eligible panel of the lane, of
class 1 if one is, first in round robin after the last-granted select within its class; with none eligible the lane stays
as it is. -/
def Obligations.ArbiterPicksByClassThenRoundRobin : Prop :=
  ∀ (s : State) (l : LaneId),
    (∀ p : PanelId, s.eligible p = true ↔
      s.part = .running ∧ s.pins.throttle = false ∧ (s.lane (s.panel p).desc.lane).link = .idle ∧
      (s.panel p).state = .ready ∧ (s.panel p).unbindPending = false ∧
      (s.panel p).display ≠ .settlingToAsleep ∧ (s.panel p).display ≠ .settlingToAwake ∧
      ∃ tk, (s.panel p).headTicket = some tk ∧ headCheck (s.panel p).desc (s.profileOf p) tk.body = none ∧
        ((∃ cost, commandCost (s.profileOf p) tk.body = some cost ∧ (s.panel p).head.started = false ∧
          (cost ≤ (s.lane (s.panel p).desc.lane).reserveCredit ∨ cost ≤ (s.panel p).credit)) ∨
        (commandCost (s.profileOf p) tk.body = none ∧
          ∃ pl, (s.panel p).plan (s.profileOf p) = some pl ∧ 1 ≤ pl.rows))) ∧
    (∀ p : PanelId, s.winner l = some p →
      s.eligible p = true ∧ (s.panel p).desc.lane = l ∧
      (∀ q : PanelId, s.eligible q = true → (s.panel q).desc.lane = l →
        ((s.panel q).desc.priority = 1 → (s.panel p).desc.priority = 1) ∧
        (((s.panel q).desc.priority = 1 ↔ (s.panel p).desc.priority = 1) →
          ((s.panel p).desc.select - ((s.lane l).lastSelect + 1)).val ≤
            ((s.panel q).desc.select - ((s.lane l).lastSelect + 1)).val))) ∧
    ((∀ q : PanelId, s.eligible q = true → (s.panel q).desc.lane ≠ l) → exec (.laneGrant l) s = .next s) ∧
    ((∃ q : PanelId, s.eligible q = true ∧ (s.panel q).desc.lane = l) → (s.winner l).isSome = true)

/-- A grant hands the lane to the winner: the last-granted select moves to it, its head is started, the cost is debited from
the account that pays, and the lane unit asserts the select with the profile's link mode and begins the transaction: its
first byte is in the shift stage, the second, if there is one at once, in the byte stage, the others and the pixel feed stand
behind them, and a DRAW's first rows are requested into the free buffers. -/
def Obligations.GrantsStartTheWinnersTransaction : Prop :=
  ∀ (s : State) (l : LaneId) (p : PanelId) (tk : Ticket), s.winner l = some p → (s.panel p).headTicket = some tk →
    let r := s.panel p
    let pf := s.profileOf p
    let begun (ln : Lane) (units : List LaneByte) : Prop :=
      ∀ b more, units = b :: more → ln.shift = some b ∧ ∀ b' more', more = b' :: more' → ln.stage = some b'
    ∃ t, exec (.laneGrant l) s = .next t ∧
      t = { s with panels := t.panels, lanes := t.lanes, port := t.port, tol := t.tol } ∧
      SameButPanel p s t ∧ SameButLane l s t ∧
      (t.lane l).link = .shifting ∧ (t.lane l).sel = some r.desc.select ∧ (t.lane l).lastSelect = r.desc.select ∧
      (t.lane l).lclk = decide (2 ≤ pf.linkMode.val) ∧
      (∃ tx, (t.lane l).tx = some tx ∧ tx.panel = p ∧ tx.select = r.desc.select ∧ tx.mode = pf.linkMode ∧
        tx.lsbFirst = pf.lsbFirst ∧ tx.rateCode = (s.lane l).rateCode) ∧
      (t.panel p).head.started = true ∧ (t.panel p).window = r.window ∧ (t.panel p).state = r.state ∧
      (∀ cost, commandCost pf tk.body = some cost →
        (t.panel p).cont = false ∧ (t.panel p).tear = r.tear ∧ t.port = s.port ∧
        (cost ≤ (s.lane l).reserveCredit →
          (t.lane l).reserveCredit = (s.lane l).reserveCredit - cost ∧ (t.panel p).credit = r.credit) ∧
        ((s.lane l).reserveCredit < cost →
          (t.lane l).reserveCredit = (s.lane l).reserveCredit ∧ (t.panel p).credit = r.credit - cost) ∧
        let tx := (s.baseTx p).command r.desc pf tk.body
        begun (t.lane l) tx.units ∧ (tx.units.length = 1 → (t.lane l).stage = none) ∧
          (t.lane l).tx = some { tx with units := tx.units.drop 2 }) ∧
      (∀ pl, commandCost pf tk.body = none → r.plan pf = some pl →
        (t.lane l).reserveCredit = (s.lane l).reserveCredit ∧ (t.panel p).credit = r.credit - pl.cost ∧
        (pl.gated = true → (t.panel p).tear = { r.tear with budget := r.tear.budget - pl.cost }) ∧
        (pl.gated = false → (t.panel p).tear = r.tear) ∧ (t.panel p).cont = r.cont ∧
        (r.head.started = false →
          (t.panel p).head = { started := true, piece := 0, rows := 0, offset := r.scroll, cut := 0 }) ∧
        (r.head.started = true → (t.panel p).head = r.head) ∧
        (∀ rect : Rect, tk.body.rect? = some rect → begun (t.lane l) (pl.units pf rect)) ∧
        (∀ rect colour, tk.body = .fill rect colour → t.port = s.port ∧
          let pixel := colour.toPanel pf.fmt
          let left := pl.rows * (rect.w * pf.fmt.bpp)
          let tx := (s.baseTx p).strip pf pl tk.body
          (1 < tx.units.length →
            (t.lane l).tx = some { tx with work := .strip pl.rows, units := tx.units.drop 2, feed := .fill pixel left }) ∧
          (tx.units.length = 1 → (t.lane l).stage = some (.data (byteAt pixel 0)) ∧
            (t.lane l).tx = some { tx with work := .strip pl.rows, units := [], feed := .fill pixel (left - 1) })) ∧
        ∀ rect source stride fmt, tk.body = .draw rect source stride fmt →
          (∀ row bytes, (s.lane l).bufA ≠ .held row bytes) → (∀ row bytes, (s.lane l).bufB ≠ .held row bytes) →
          let len := rect.w * fmt.bytes
          let row (b : BufId) (n : Nat) : List ReadTxn := requestTxns (ReadOwner.pixel l b)
            (source + BitVec.ofNat 32 ((pl.logical - rect.y + n) * stride)) len
          let tx := (s.baseTx p).strip pf pl tk.body
          let forA := (s.lane l).bufA = .free
          let first : Nat := if forA then 1 else 0
          let forB := (s.lane l).bufB = .free ∧ first < pl.rows
          (t.lane l).bufA = (if forA then .fetching 0 len [] false else (s.lane l).bufA) ∧
          (t.lane l).bufB = (if forB then .fetching first len [] false else (s.lane l).bufB) ∧
          (tx.units.length = 1 → (t.lane l).stage = none) ∧
          (t.lane l).tx = some { tx with
            work := .strip pl.rows
            units := tx.units.drop 2
            feed := .draw {
              source := source, stride := stride, src := fmt, dst := pf.fmt, width := rect.w
              firstRow := pl.logical - rect.y, rows := pl.rows, next := first + if forB then 1 else 0
              cur := 0, pos := 0 } } ∧
          let rows := (if forA then row 0 0 else []) ++ (if forB then row 1 first else [])
          t.port = { s.port with pixQ := s.port.pixQ.set l (s.port.pixQ[l] ++ rows) })

/-- THROTTLE is taken as a level: its two commands set it and change nothing but the tolerance reporter beside it, and while
it is high no lane transaction begins on any lane. -/
def Obligations.ThrottleHoldsBackGrants : Prop :=
  (∀ s : State, ∃ t, exec .throttleHigh s = .next t ∧ t.pins = { s.pins with throttle := true } ∧
    t = { s with pins := t.pins, tol := t.tol } ∧ ∀ l : LaneId, exec (.laneGrant l) t = .next t) ∧
  (∀ s : State, ∃ t, exec .throttleLow s = .next t ∧ t.pins = { s.pins with throttle := false } ∧
    t = { s with pins := t.pins, tol := t.tol }) ∧
  ∀ (s : State) (l : LaneId), s.pins.throttle = true → exec (.laneGrant l) s = .next s

/-- The end of a byte time: the byte in the byte stage moves in and the byte stage takes the transaction's next byte, or stays
empty where that is late or none follows; with an empty byte stage the next byte moves in, the lane stalls before a late row, enters ENDING with the
select deasserted after the last byte, or deasserts it when an abort is ordered; a byte clocked in is dropped while dummy
bytes are due and else joins the reply, its bits the levels of LDI on the capture edges of the link mode, in the lane's bit
order; in the other link states no byte time ends. Into a buffer that has become free the strip's next row is requested, if
one remains and no abort is ordered. An abort deasserts every signal, frees the buffers or leaves them reserved, and makes
the continuation flag invalid; cut by a soft reset or while RESETTING it does no more. -/
def Obligations.ByteTimesMoveTheTransactionOn : Prop :=
  (∀ (s : State) (l : LaneId) (ldi : Half),
    let ln := s.lane l
    let cap := ln.capture ldi
    let filled (y from' : Lane) : Prop :=
      (∀ b ln', from'.supply = .byte b ln' →
        y.stage = some b ∧ y.tx = ln'.tx ∧ y.bufA = ln'.bufA ∧ y.bufB = ln'.bufB) ∧
      (from'.supply = .late ∨ from'.supply = .exhausted →
        y.stage = none ∧ y.tx = from'.tx ∧ y.bufA = from'.bufA ∧ y.bufB = from'.bufB)
    (ln.link = .shifting → ∃ y : Lane,
      exec (.byteTimeEnd l ldi) s = .next (State.recompute (State.requestRows (s.setLane l y) l)) ∧
      y = { ln with
        link := y.link, tx := y.tx, shift := y.shift, stage := y.stage, bufA := y.bufA, bufB := y.bufB
        reply := cap.reply, sel := y.sel, ldo := y.ldo, ldc := y.ldc } ∧
      (∀ b, ln.stage = some b → y.shift = some b ∧ filled y cap) ∧
      (∀ b ln', ln.stage = none → cap.supply = .byte b ln' → y.shift = some b ∧ filled y ln') ∧
      (ln.stage = none → cap.supply = .late ∨ cap.supply = .exhausted →
        y.shift = none ∧ y.stage = none ∧ y.tx = cap.tx ∧ y.bufA = ln.bufA ∧ y.bufB = ln.bufB)) ∧
    (∀ tx, ln.tx = some tx → (ln.shift = some .clockIn → cap.tx = some { tx with dummy := tx.dummy - 1 }) ∧
      (ln.shift ≠ some .clockIn → cap = ln)) ∧
    (ln.link = .shifting → ∃ t, exec (.byteTimeEnd l ldi) s = .next t ∧
      t = { s with lanes := t.lanes, port := t.port, tol := t.tol } ∧ SameButLane l s t ∧
      (∀ b, ln.stage = some b → (t.lane l).link = .shifting ∧ (t.lane l).shift = some b ∧ (t.lane l).sel = ln.sel ∧
        ((∃ v, b = .cmd v) → (t.lane l).ldc = false) ∧ ((∃ v, b = .data v) → (t.lane l).ldc = true) ∧
        (b = .clockIn → (t.lane l).ldc = true ∧ (t.lane l).ldo = .released)) ∧
      (∀ b ln', ln.stage = none → cap.supply = .byte b ln' →
        (t.lane l).link = .shifting ∧ (t.lane l).shift = some b) ∧
      (ln.stage = none → cap.supply = .late →
        (t.lane l).link = .stalled ∧ (t.lane l).shift = none ∧ (t.lane l).sel = ln.sel ∧ (t.lane l).ldc = ln.ldc) ∧
      (ln.stage = none → cap.supply = .exhausted →
        (t.lane l).link = .ending ∧ (t.lane l).shift = none ∧ (t.lane l).sel = none ∧
        (t.lane l).ldo = .driven false ∧ (t.lane l).ldc = true) ∧
      (∀ tx, ln.shift = some .clockIn → ln.tx = some tx →
        (0 < tx.dummy → (t.lane l).reply = ln.reply) ∧
        (tx.dummy = 0 → ∃ v : Byte, (t.lane l).reply = ln.reply ++ [v] ∧
          ∀ n : Nat, n < 8 → v.getLsbD (if tx.lsbFirst = true then n else 7 - n) =
            ldi.getLsbD (15 - if tx.mode = 0 ∨ tx.mode = 2 then 2 * n else 2 * n + 1)))) ∧
    (ln.link = .aborting → ∃ x : State, exec (.byteTimeEnd l ldi) s = .next x.commit ∧ SameButLane l s x ∧
      (x.lane l).link = .gapAfterAbort ∧ (x.lane l).sel = none ∧ (x.lane l).tx = none ∧ (x.lane l).shift = none ∧
      (x.lane l).ldo = .driven false ∧ (x.lane l).ldc = true ∧ (x.lane l).reply = [] ∧ x.lane l = s.cutLane l ∧
      (∀ tx c, ln.tx = some tx → ln.cause = some c → (x.panel tx.panel).cont = false ∧
        (s.part = .resetting ∨ c = .softReset → x = { s with panels := x.panels, lanes := x.lanes } ∧
          SameButPanel tx.panel s x ∧ x.panel tx.panel = { s.panel tx.panel with cont := false }))) ∧
    (ln.link ≠ .shifting → ln.link ≠ .aborting → exec (.byteTimeEnd l ldi) s = .next s)) ∧
  (∀ (s : State) (l : LaneId), s.requestRows l = (s.requestRow l 0).requestRow l 1) ∧
  (∀ (s : State) (l : LaneId) (b : BufId) (tx : Tx) (d : DrawFeed), (s.lane l).tx = some tx → tx.feed = .draw d →
    let due := ((s.lane l).link = .shifting ∨ (s.lane l).link = .stalled) ∧ d.next < d.rows ∧ (s.lane l).buf b = .free
    let len := d.width * d.src.bytes
    (due → s.requestRow l b = { s with
      lanes := s.lanes.set l (Lane.setBuf
        { s.lane l with tx := some { tx with feed := .draw { d with next := d.next + 1 } } } b
        (.fetching d.next len [] false))
      port := { s.port with pixQ := s.port.pixQ.set l (s.port.pixQ[l] ++ requestTxns (ReadOwner.pixel l b)
        (d.source + BitVec.ofNat 32 ((d.firstRow + d.next) * d.stride)) len) } }) ∧
    (¬ due → s.requestRow l b = s)) ∧
  (∀ (s : State) (l : LaneId) (b : BufId), (∀ tx, (s.lane l).tx = some tx → ∀ d, tx.feed ≠ .draw d) →
    s.requestRow l b = s) ∧
  (∀ (q : Port) (l : LaneId) (b : BufId), q.awaits l b = true ↔ ∃ x ∈ q.outReads, ∃ off, x.owner = .pixel l b off) ∧
  ∀ (x : LineBuf) (awaits : Bool),
    let kept := awaits = true ∧ (x = .reserved ∨ ∃ row want got err, x = .fetching row want got err)
    (kept → x.cut awaits = .reserved) ∧ (¬ kept → x.cut awaits = .free)

/-- The answers to a row's fetch: an OK or an ERROR that leaves others to come joins the row or marks it; the last answer,
all being OK, makes the row whole, converted and held, lets a lane stalled on it shift on, and gives the empty byte stage of
a lane that shifts its first byte; a row that is not the one due is held and nothing moves, and so, with no row requested,
behind an abort. With an ERROR among the answers it is a pixel error, which halts the panel and orders the abort, or, behind
an abort already ordered, leaves it (UNBIND, REWIND) or takes its place (a forced park). At the report of the deassertion, at
once in STALLED and at the end of the byte in SHIFTING, the head is written FAILED/PIXEL_ERROR with the completed rows, behind
the writes of the gate entries that the halt breaks. The answers for a cut strip are discarded, and the last frees its reserved buffer, into which a row may then
be requested. When the pixel error of a row is found is the model's choice, log 9. -/
def Obligations.PixelAnswersFillTheRowOrHalt : Prop :=
  (∀ (s : State) (l : LaneId) (b : BufId) (off row want : Nat) (got : List (Nat × List Byte)) (x : ReadTxn) (tx : Tx)
      (d : DrawFeed),
    s.part ≠ .resetting → (s.lane l).buf b = .fetching row want got false →
    s.Outstanding (ReadOwner.isPixel l b off) x → (s.lane l).tx = some tx → tx.feed = .draw d →
    let s1 := s.readFreed x
    (∀ bs : List Byte, bs.length = x.len →
      let parts := insertPart off bs got
      (s1.fetchOver l b = false ∨ gotLength parts ≠ want →
        exec (.pixelFetchAnswered l b off (.ok bs)) s = .next (State.commit (s1.setLane l
          ((s.lane l).setBuf b (.fetching row want parts false))))) ∧
      (s1.fetchOver l b = true → gotLength parts = want → (s.lane l).link ≠ .shifting → (s.lane l).link ≠ .stalled →
        exec (.pixelFetchAnswered l b off (.ok bs)) s = .next (State.commit (s1.setLane l
          ((s.lane l).setBuf b (.held row (convertRow d (assemble parts))))))) ∧
      (s1.fetchOver l b = true → gotLength parts = want → (s.lane l).link = .shifting ∨ (s.lane l).link = .stalled →
        (s.lane l).stage = none → tx.units = [] → d.cur ≠ row → d.cur < d.rows → (s.lane l).holding d.cur = none →
        exec (.pixelFetchAnswered l b off (.ok bs)) s = .next (State.commit (State.requestRows (s1.setLane l
          ((s.lane l).setBuf b (.held row (convertRow d (assemble parts))))) l))) ∧
      (s1.fetchOver l b = true → gotLength parts = want → (s.lane l).link = .shifting → (s.lane l).stage ≠ none →
        ∃ y : State, exec (.pixelFetchAnswered l b off (.ok bs)) s = .next y.commit ∧
          (y.lane l).buf b = .held row (convertRow d (assemble parts)) ∧ (y.lane l).link = .shifting ∧
          y = { s1 with lanes := y.lanes, port := y.port } ∧ SameButLane l s y) ∧
      (s1.fetchOver l b = true → gotLength parts = want → (s.lane l).link = .stalled → (s.lane l).stage = none →
        tx.units = [] → d.cur = row → d.cur < d.rows → (s.lane l).holding row = none →
        ∃ y : State, exec (.pixelFetchAnswered l b off (.ok bs)) s = .next y.commit ∧
          (y.lane l).link = .shifting ∧ (y.lane l).sel = (s.lane l).sel ∧
          (y.lane l).shift = some (.data (byteAt (convertRow d (assemble parts)) d.pos))) ∧
      (s1.fetchOver l b = true → gotLength parts = want → (s.lane l).link = .shifting → (s.lane l).stage = none →
        tx.units = [] → d.cur = row → d.cur < d.rows → (s.lane l).holding row = none →
        ∃ y : State, exec (.pixelFetchAnswered l b off (.ok bs)) s = .next y.commit ∧
          y = { s1 with lanes := y.lanes, port := y.port } ∧ SameButLane l s y ∧
          (y.lane l).link = .shifting ∧ (y.lane l).sel = (s.lane l).sel ∧ (y.lane l).shift = (s.lane l).shift ∧
          (y.lane l).stage = some (.data (byteAt (convertRow d (assemble parts)) d.pos)))) ∧
    (s1.fetchOver l b = false → exec (.pixelFetchAnswered l b off .error) s = .next (State.commit (s1.setLane l
      ((s.lane l).setBuf b (.fetching row want got true)))))) ∧
  (∀ (s : State) (l : LaneId) (b : BufId) (off row want : Nat) (got : List (Nat × List Byte)) (err : Bool) (x : ReadTxn)
      (tx : Tx) (d : DrawFeed) (resp : ReadResp),
    s.part ≠ .resetting → (s.lane l).buf b = .fetching row want got err →
    s.Outstanding (ReadOwner.isPixel l b off) x → (s.lane l).tx = some tx → tx.feed = .draw d →
    (∀ bs : List Byte, resp = .ok bs → bs.length = x.len) → resp = .error ∨ err = true →
    (s.readFreed x).fetchOver l b = true →
    ∃ y : State, exec (.pixelFetchAnswered l b off resp) s = .next y.commit ∧
      hasPanel y.ctl.fault tx.panel = true ∧
      ((s.panel tx.panel).bound = true → (y.panel tx.panel).fault = .pixelError) ∧
      (y.panel tx.panel).state = (s.panel tx.panel).state.afterHalt ∧
      ((s.panel tx.panel).state = .ready → (y.panel tx.panel).state = .halted) ∧
      ((s.lane l).cause = none → (s.lane l).link = .shifting →
        (y.lane l).link = .aborting ∧ (y.lane l).cause = some .pixelError ∧ (y.lane l).stage = none ∧
        y.port.pixQ[l] = []) ∧
      ((s.lane l).cause = none → (s.lane l).link = .stalled →
        (y.lane l).link = .gapAfterAbort ∧ (y.lane l).sel = none ∧ y.port.pixQ[l] = []) ∧
      ((s.lane l).cause = some .forcedPark →
        (y.lane l).link = (s.lane l).link ∧ (y.lane l).cause = some .pixelError) ∧
      ((s.lane l).cause = some .unbind ∨ (s.lane l).cause = some .rewind →
        (y.lane l).link = (s.lane l).link ∧ (y.lane l).cause = (s.lane l).cause) ∧
      ∀ (e : Entry) (rest : List Entry) (front : PanelId → Entry), (s.lane l).cause = none →
        (s.lane l).link = .stalled → (s.panel tx.panel).window = e :: rest →
        s.Fronts (s.haltGates tx.panel) front → tx.panel ∉ s.listed (s.haltGates tx.panel) →
        ((s.panel tx.panel).state ≠ .parking → ¬ s.ctl.op.parks tx.panel) →
        (y.panel tx.panel).cont = false ∧ (y.panel tx.panel).window = rest ∧ (y.panel tx.panel).head = .clear ∧
        y.lane l = (s.readFreed x).cutLane l ∧
        y.port.writeQ = s.port.writeQ ++ s.haltWrites tx.panel front ++ [finalWrite tx.panel false (e, {
          state := .failed, reason := .pixelError, detail := (s.panel tx.panel).rowsDone })]) ∧
  (∀ (s : State) (l : LaneId) (ldi : Half) (tx : Tx) (e : Entry) (rest : List Entry), s.part ≠ .resetting →
    (s.lane l).link = .aborting → (s.lane l).tx = some tx → (s.lane l).cause = some .pixelError →
    (s.panel tx.panel).window = e :: rest → ¬ s.ctl.op.parks tx.panel →
    ∃ x : State, exec (.byteTimeEnd l ldi) s = .next x.commit ∧
      x = { s with panels := x.panels, lanes := x.lanes, port := x.port } ∧ SameButPanel tx.panel s x ∧
      SameButLane l s x ∧ x.lane l = s.cutLane l ∧ (x.panel tx.panel).cont = false ∧ (x.panel tx.panel).window = rest ∧
      (x.panel tx.panel).head = .clear ∧
      ((s.panel tx.panel).state ≠ .parking → (x.panel tx.panel).state = (s.panel tx.panel).state) ∧
      x.port = { s.port with writeQ := s.port.writeQ ++ [finalWrite tx.panel false (e, {
        state := .failed, reason := .pixelError, detail := (s.panel tx.panel).rowsDone })] }) ∧
  ∀ (s : State) (l : LaneId) (b : BufId) (off : Nat) (x : ReadTxn) (resp : ReadResp), s.part ≠ .resetting →
    s.Outstanding (ReadOwner.isPixel l b off) x → (∀ bs : List Byte, resp = .ok bs → bs.length = x.len) →
    let s1 := s.readFreed x
    ((s.lane l).buf b = .reserved → s1.fetchOver l b = true →
      exec (.pixelFetchAnswered l b off resp) s =
        .next (State.commit (State.requestRows (s1.setLane l ((s.lane l).setBuf b .free)) l))) ∧
    ((s.lane l).buf b = .reserved → s1.fetchOver l b = false →
      exec (.pixelFetchAnswered l b off resp) s = .next s1.commit) ∧
    ((s.lane l).buf b = .free ∨ (∃ row bytes, (s.lane l).buf b = .held row bytes) →
      exec (.pixelFetchAnswered l b off resp) s = .next s1.commit)

/-- The completion of a lane transaction is applied to the head as its kind gives, a PARKING panel parks after it, and the
lane becomes idle; the end of the gap after an abort makes the lane idle without a completion; in the other link states
neither event arises. That one command makes the lane idle and applies the completion, so that no decision of the arbiter
comes between, is the model's choice of the orders R140 allows, log 32. -/
def Obligations.CompletionsApplyTheirKind : Prop :=
  (∀ (s : State) (l : LaneId) (tx : Tx) (e : Entry) (rest : List Entry), s.part ≠ .resetting →
    (s.lane l).link = .ending → (s.lane l).tx = some tx → (s.panel tx.panel).window = e :: rest →
    let p := tx.panel
    let r := s.panel p
    let done (n : Nat) : WriteTxn := finalWrite p false (e, { state := .done, reason := .none, detail := n })
    ∃ x : State, exec (.transactionCompletion l) s = .next x.commit ∧
      (x.lane l).link = .idle ∧ (x.lane l).tx = none ∧ SameButLane l s x ∧ SameButPanel p s x ∧
      (x.panel p).state = (if r.state = .parking then .parked else r.state) ∧
      (r.state = .parking → s.ctl.op = .parkWait p → x.ctl.resState = .done ∧ x.ctl.result = .ok) ∧
      (tx.work = .send → x.port.writeQ = s.port.writeQ ++ [done 0] ∧ (x.panel p).window = rest) ∧
      (∀ o, tx.work = .scroll o → x.port.writeQ = s.port.writeQ ++ [done 0] ∧ (x.panel p).window = rest ∧
        (x.panel p).scroll = o) ∧
      (tx.work = .read → (x.panel p).window = rest ∧ x.port.writeQ = s.port.writeQ ++
        [{ kind := .reply p, addr := e.ticket.addr + 18, data := (s.lane l).reply }, done 0]) ∧
      (tx.work = .sleep → (x.panel p).tear = r.tear.enterUntracked false ∧
        (0 < (s.profileOf p).sleepSettle → (x.panel p).display = .settlingToAsleep ∧
          (x.panel p).settle = (s.profileOf p).sleepSettle ∧ (x.panel p).window = r.window ∧ x.port = s.port) ∧
        ((s.profileOf p).sleepSettle = 0 → (x.panel p).display = .asleep ∧
          (r.startedOn .sleep = true → x.port.writeQ = s.port.writeQ ++ [done 0] ∧ (x.panel p).window = rest))) ∧
      (tx.work = .wake →
        (0 < (s.profileOf p).wakeSettle → (x.panel p).display = .settlingToAwake ∧ (x.panel p).tear = r.tear ∧
          (x.panel p).settle = (s.profileOf p).wakeSettle ∧ (x.panel p).window = r.window ∧ x.port = s.port) ∧
        ((s.profileOf p).wakeSettle = 0 → (x.panel p).display = .awake ∧
          (x.panel p).tear = r.tear.enterUntracked (0 < r.desc.teWatch) ∧
          (r.startedOn .wake = true → x.port.writeQ = s.port.writeQ ++ [done 0] ∧ (x.panel p).window = rest))) ∧
      ∀ (n : Nat) (rect : Rect) (pc : Piece), tx.work = .strip n → e.ticket.body.rect? = some rect →
        r.headPieces[r.head.piece]? = some pc →
        (r.head.rows + n < pc.rows →
          (x.panel p).head = { r.head with rows := r.head.rows + n } ∧ (x.panel p).window = r.window ∧
          (x.panel p).cont = decide (r.state ≠ .parking) ∧ x.port = s.port) ∧
        (r.head.started = true → pc.rows ≤ r.head.rows + n → r.head.piece + 1 < r.headPieces.length →
          (x.panel p).head = { r.head with piece := r.head.piece + 1, rows := 0 } ∧
          (x.panel p).window = r.window ∧ (x.panel p).cont = false ∧ x.port = s.port) ∧
        (r.head.started = true → pc.rows ≤ r.head.rows + n → r.head.piece + 1 = r.headPieces.length →
          (x.panel p).head = Head.clear ∧ (x.panel p).window = rest ∧ (x.panel p).cont = false ∧
          x.port.writeQ = s.port.writeQ ++ [match e.ticket.latest with
            | none => done rect.h
            | some latest =>
              if 0 < (s.timer.count - latest).toInt then
                finalWrite p false (e, { state := .doneLate, reason := .none, detail := rect.h })
              else done rect.h])) ∧
  (∀ (s : State) (l : LaneId), (s.lane l).link ≠ .ending → exec (.transactionCompletion l) s = .next s) ∧
  (∀ (s : State) (l : LaneId), (s.lane l).link = .gapAfterAbort →
    ∃ t, exec (.gapAfterAbortEnd l) s = .next t ∧ t = { s with lanes := t.lanes, tol := t.tol } ∧ SameButLane l s t ∧
      t.lane l = { s.lane l with link := .idle, tx := none, cause := none, reply := [] }) ∧
  ∀ (s : State) (l : LaneId), (s.lane l).link ≠ .gapAfterAbort → exec (.gapAfterAbortEnd l) s = .next s

/-! ### The strip planner -/

/-- The limit of the plan in force is the credit, and for a tear-gated strip no more than the budget remaining of an OPEN
window. A strip with rows never costs more than its limit, is as large as the limit and its piece allow, and sends before its
pixels exactly the bytes of its overhead: three units with their codes and coordinates, or the continue code; a command item
sends exactly the bytes of its cost, its code first. The next byte comes from the unit bytes, then from the pixel feed: the
bytes of the FILL pixel in turn, or the row held in a line buffer, which becomes free with its last byte, or is late. On the
wire a byte's bits stand on LDO at the eight capture edges of the link mode, in the lane's bit order, and change only on
change edges, while LCLK moves from its idle level and back. -/
def Obligations.TransactionsSendTheirBytesWithinTheirLimit : Prop :=
  (∀ (r : Panel) (pf : Profile),
    let gated := r.desc.policy = .blank ∧ r.display = .awake ∧ (r.tear.state ≠ .untracked ∨ r.desc.fallback = .wait)
    (gated → r.tear.state = .opened → r.plan pf = r.planUnder pf (min r.credit r.tear.budget)) ∧
    (gated → r.tear.state ≠ .opened → r.plan pf = r.planUnder pf 0) ∧
    (¬ gated → r.plan pf = r.planUnder pf r.credit) ∧
    ∀ (limit : Nat) (pl : Plan), r.planUnder pf limit = some pl → (pl.gated = true ↔ gated)) ∧
  (∀ r : Panel, (r.window = [] → r.headPieces = []) ∧ ∀ (e : Entry) (rest : List Entry), r.window = e :: rest →
    (∀ rect : Rect, e.ticket.body.rect? = some rect → r.headPieces = r.piecesOf rect) ∧
    (e.ticket.body.rect? = none → r.headPieces = [])) ∧
  (∀ (r : Panel) (pf : Profile) (limit : Nat) (pl : Plan), pf.k = 1 ∨ pf.k = 2 → r.planUnder pf limit = some pl →
    (1 ≤ pl.rows → pl.cost ≤ limit) ∧
    ∃ rect pc, r.headTicket.bind (·.body.rect?) = some rect ∧ r.headPieces[r.head.piece]? = some pc ∧
      pl.rows ≤ pc.rows - r.head.rows ∧
      pl.cost = (if pl.continued = true then 1 else 3 + 4 * pf.k) + pl.rows * (rect.w * pf.fmt.bpp) ∧
      (pl.units pf rect).length = (if pl.continued = true then 1 else 3 + 4 * pf.k) ∧
      (pl.continued = true ↔ pf.continueCode ≠ none ∧ r.cont = true) ∧
      pl.logical = pc.logical + r.head.rows ∧ pl.mem = pc.mem + r.head.rows ∧ pl.memEnd = pc.mem + pc.rows - 1 ∧
      (1 ≤ rect.w → pl.rows < pc.rows - r.head.rows → limit < pl.cost + rect.w * pf.fmt.bpp)) ∧
  (∀ (t : Tx) (d : Descriptor) (pf : Profile) (b : Body) (cost : Nat), pf.k = 1 ∨ pf.k = 2 →
    commandCost pf b = some cost → (t.command d pf b).units.length = cost) ∧
  (∀ (t : Tx) (d : Descriptor) (pf : Profile) (pl : Plan) (rect : Rect), pf.k = 1 ∨ pf.k = 2 →
    let number (n : Nat) : List LaneByte :=
      if pf.k = 1 then [.data (BitVec.ofNat 8 n)] else [.data (BitVec.ofNat 8 (n / 256)), .data (BitVec.ofNat 8 n)]
    (∀ c, pl.continued = true → pf.continueCode = some c → pl.units pf rect = [.cmd c]) ∧
    (pl.continued = false → pl.units pf rect =
      .cmd pf.columnCode :: (number rect.x ++ number (rect.x + rect.w - 1)) ++
      .cmd pf.rowCode :: (number pl.mem ++ number pl.memEnd) ++ [.cmd pf.memoryCode]) ∧
    (∀ colour : Rgb, t.strip pf pl (.fill rect colour) = { t with
      work := .strip pl.rows, units := pl.units pf rect
      feed := .fill (colour.toPanel pf.fmt) (pl.rows * (rect.w * pf.fmt.bpp)) }) ∧
    (∀ source stride fmt, t.strip pf pl (.draw rect source stride fmt) = { t with
      work := .strip pl.rows, units := pl.units pf rect
      feed := .draw {
        source := source, stride := stride, src := fmt, dst := pf.fmt, width := rect.w
        firstRow := pl.logical - rect.y, rows := pl.rows, next := 0, cur := 0, pos := 0 } }) ∧
    (∀ o c, pf.scrollCode = some c →
      t.command d pf (.scroll o) = { t with work := .scroll o, units := .cmd c :: number (d.tfa + o) }) ∧
    (∀ code params, t.command d pf (.send code params) =
      { t with work := .send, units := .cmd code :: params.map .data }) ∧
    (∀ code count, t.command d pf (.read code count) = { t with
      work := .read, units := .cmd code :: List.replicate (pf.readDummy + count) .clockIn, dummy := pf.readDummy }) ∧
    (∀ c, pf.sleepCode = some c → t.command d pf .sleep = { t with work := .sleep, units := [.cmd c] }) ∧
    (∀ c, pf.wakeCode = some c → t.command d pf .wake = { t with work := .wake, units := [.cmd c] })) ∧
  (∀ (ln : Lane) (tx : Tx), ln.tx = some tx →
    (∀ b rest, tx.units = b :: rest → ln.supply = .byte b { ln with tx := some { tx with units := rest } }) ∧
    (tx.units = [] →
      (tx.feed = .none → ln.supply = .exhausted) ∧
      (∀ pixel left, tx.feed = .fill pixel left →
        (left = 0 → ln.supply = .exhausted) ∧
        (∀ pixels i, 0 < left → left + i = pixels * pixel.length → ln.supply =
          .byte (.data (byteAt pixel (i % pixel.length)))
            { ln with tx := some { tx with feed := .fill pixel (left - 1) } })) ∧
      ∀ d, tx.feed = .draw d →
        (d.rows ≤ d.cur → ln.supply = .exhausted) ∧
        (d.cur < d.rows → (∀ b bytes, ln.buf b ≠ .held d.cur bytes) → ln.supply = .late) ∧
        ∀ b bytes, d.cur < d.rows → ln.buf b = .held d.cur bytes →
          (∀ b' bytes', b' ≠ b → ln.buf b' ≠ .held d.cur bytes') →
          (d.pos + 1 < bytes.length → ln.supply = .byte (.data (byteAt bytes d.pos))
            { ln with tx := some { tx with feed := .draw { d with pos := d.pos + 1 } } }) ∧
          (bytes.length ≤ d.pos + 1 → ln.supply = .byte (.data (byteAt bytes d.pos))
            (Lane.setBuf { ln with tx := some { tx with feed := .draw { d with cur := d.cur + 1, pos := 0 } } } b
              .free)))) ∧
  ∀ (ln : Lane) (tx : Tx) (v : Byte), ln.shift = some (.cmd v) ∨ ln.shift = some (.data v) → ln.tx = some tx →
    let idleHigh := tx.mode = 2 ∨ tx.mode = 3
    (∀ n : Nat, n < 8 →
      let i := if tx.mode = 0 ∨ tx.mode = 2 then 2 * n else 2 * n + 1
      edgeAt tx.mode i = captureEdge tx.mode ∧
      ln.ldoAt i = .driven (v.getLsbD (if tx.lsbFirst = true then n else 7 - n))) ∧
    (∀ i : Nat, i < 15 → ln.ldoAt (i + 1) = ln.ldoAt i ∨ edgeAt tx.mode i = changeEdge tx.mode) ∧
    (∀ i : Nat, (ln.lclkAt i = true ↔ (idleHigh ↔ i % 2 = 0)) ∧
      (edgeAt tx.mode i = .rising ↔ ln.lclkAt i = false ∧ ln.lclkAt (i + 1) = true)) ∧
    captureEdge tx.mode = (if tx.mode = 0 ∨ tx.mode = 3 then .rising else .falling) ∧
    changeEdge tx.mode = (if tx.mode = 0 ∨ tx.mode = 3 then .falling else .rising)

/-- The scroll mapping is one to one on the panel's rows, and the pieces of a rectangle are its rows in order, one to four
runs whose memory rows ascend one by one: each band of rows that the rectangle reaches gives one. -/
def Obligations.PiecesCoverTheRectangleInOrder : Prop :=
  ∀ (d : Descriptor) (s : Nat), d.tfa + d.vsa + d.bfa = d.height → s < d.vsa ∨ s = 0 →
    (∀ y, y < d.tfa ∨ d.tfa + d.vsa ≤ y → d.memRow s y = y) ∧
    (∀ y, d.tfa ≤ y → y < d.tfa + d.vsa → d.memRow s y = d.tfa + (y - d.tfa + s) % d.vsa) ∧
    (∀ y, y < d.height → d.memRow s y < d.height) ∧
    (∀ y z, y < d.height → z < d.height → d.memRow s y = d.memRow s z → y = z) ∧
    (∀ y, d.memRow 0 y = y) ∧
    ∀ y h, 1 ≤ h → y + h ≤ d.height →
      let ps := d.pieces s y h
      1 ≤ ps.length ∧ ps.length ≤ 4 ∧ (ps.map (·.rows)).sum = h ∧ (∀ pc, ps.head? = some pc → pc.logical = y) ∧
      (∀ i pc next, ps[i]? = some pc → ps[i + 1]? = some next → next.logical = pc.logical + pc.rows) ∧
      (∀ pc ∈ ps, 1 ≤ pc.rows ∧ ∀ i, i < pc.rows → d.memRow s (pc.logical + i) = pc.mem + i) ∧
      ∀ pc : Piece, pc ∈ ps ↔ ∃ band ∈ [(0, d.tfa), (d.tfa, d.tfa + (d.vsa - s)),
          (d.tfa + (d.vsa - s), d.tfa + d.vsa), (d.tfa + d.vsa, d.height)],
        max y band.1 < min (y + h) band.2 ∧ pc = {
          logical := max y band.1, mem := d.memRow s (max y band.1), rows := min (y + h) band.2 - max y band.1 }

/-- Pixels go from source to panel format by widening and narrowing: a component of 5 or 6 bits is followed by its own top
bits, P16 keeps the top 5, 6 and 5 bits and P18 the top 6 of each component; so S16 to P16 and S24 or S32 to P24 pass
unchanged and white stays white. Each pixel of a row is converted by itself, into its format's bytes. -/
def Obligations.PixelsKeepTheirColour : Prop :=
  (∀ lo hi : Byte,
    let v := lo.toNat + 256 * hi.toNat
    let c := srcPixel .s16 [lo, hi]
    c.r.toNat = v / 2048 * 8 + v / 2048 / 4 ∧ c.g.toNat = v / 32 % 64 * 4 + v / 32 % 64 / 16 ∧
    c.b.toNat = v % 32 * 8 + v % 32 / 4) ∧
  (∀ r g b u : Byte, srcPixel .s24 [r, g, b] = { r := r, g := g, b := b } ∧
    srcPixel .s32 [b, g, r, u] = { r := r, g := g, b := b }) ∧
  (∀ c : Rgb,
    let v := c.r.toNat / 8 * 2048 + c.g.toNat / 4 * 32 + c.b.toNat / 8
    c.toPanel .p16 = [BitVec.ofNat 8 (v / 256), BitVec.ofNat 8 (v % 256)] ∧ c.toPanel .p24 = [c.r, c.g, c.b]) ∧
  (∀ (d : DrawFeed) (bs : List Byte) (i j : Nat), i < d.width → j < d.dst.bpp →
    byteAt (convertRow d bs) (i * d.dst.bpp + j) =
      byteAt ((srcPixel d.src (bs.drop (i * d.src.bytes))).toPanel d.dst) j) ∧
  (∀ lo hi : Byte, (srcPixel .s16 [lo, hi]).toPanel .p16 = [hi, lo]) ∧
  (∀ r g b : Byte, (srcPixel .s24 [r, g, b]).toPanel .p24 = [r, g, b]) ∧
  (∀ b g r u : Byte, (srcPixel .s32 [b, g, r, u]).toPanel .p24 = [r, g, b]) ∧
  (∀ c : Rgb, c.toPanel .p18 = [c.r &&& 0xFC, c.g &&& 0xFC, c.b &&& 0xFC]) ∧
  (srcPixel .s16 [0xFF, 0xFF] = { r := 0xFF, g := 0xFF, b := 0xFF } ∧
    srcPixel .s16 [0, 0] = { r := 0, g := 0, b := 0 }) ∧
  (∀ (c : Rgb) (f : PixFmt), (c.toPanel f).length = f.bpp) ∧
  ∀ (d : DrawFeed) (bs : List Byte), (convertRow d bs).length = d.width * d.dst.bpp

/-! ### Tear tracking -/

/-- A conditioner accepts a level when its filter allows, and an accepted edge is a TE event exactly on the listed
conditions; a TE event updates estimate, watch and window in this order, and any other edge changes the qualified level
alone. An edge that falls together with the boundary still to come and ends an OPEN channel's hold counts its estimate to
that boundary and is remembered up to it, and so is one that falls together with a boundary that would bring the watch from 0
to the TE watch value (how the model holds R100 and R102, log 31). A sample of the filter clock moves the run counts of the
slots that have a filter; that the sample which completes a run leaves the count to the edge that accepts it is the model's
reading of R96, log 8. -/
def Obligations.EdgesBecomeTeEvents : Prop :=
  (∀ (s : State) (p : PanelId) (level together : Bool),
    let r := s.panel p
    let c := r.tear
    let due := level ≠ c.qualified ∧ (c.filter = .none ∨ ∃ n, c.filter.samples = some n ∧ n ≤ c.run + 1)
    let te := r.state ≠ .unbound ∧ r.desc.policy = .blank ∧ r.display = .awake ∧ s.part = .running ∧
      (c.edge = .rising ∧ level = true ∨ c.edge = .falling ∧ level = false ∨ c.edge = .both)
    let accepted : Channel := { c with qualified := level, run := 0 }
    let meets := together = true ∧ ∃ len progress, s.timer.period = some (len, progress) ∧ len ≤ progress + 1
    let last := c.state = .opened ∧ c.hold ≤ 1
    let after (count : Word) (meeting : Meeting) : Channel := { accepted with
      estimate := if c.base = true then min (count - c.lastTe).toNat 65535 else c.estimate
      lastTe := s.timer.count
      base := true
      watch := 0
      armed := decide (0 < r.desc.teWatch)
      state := if c.skipCtr = 0 then .opened else c.state
      budget := if c.skipCtr = 0 then r.desc.budget else c.budget
      hold := if c.skipCtr = 0 then r.desc.hold else c.hold
      skipCtr := (c.skipCtr + 1) % c.skip
      meeting := meeting }
    (¬ due → exec (.qualifiedEdge p { level := level, together := together }) s = .next s) ∧
    (due → ∃ t, exec (.qualifiedEdge p { level := level, together := together }) s = .next t ∧
      t = { s with panels := t.panels, pins := t.pins, tol := t.tol } ∧ SameButPanel p s t ∧
      t.panel p = { r with tear := (t.panel p).tear } ∧ hasPanel t.pins.te p = level ∧
      (∀ q : PanelId, q ≠ p → hasPanel t.pins.te q = hasPanel s.pins.te q) ∧
      (¬ te → (t.panel p).tear = accepted ∧ t.tol = s.tol) ∧
      (te → ¬ (meets ∧ (last ∨ r.desc.teWatch = 1)) →
        (t.panel p).tear = after s.timer.count (if c.skipCtr = 0 then .none else c.meeting)) ∧
      (te → meets → ¬ last → r.desc.teWatch = 1 → (t.panel p).tear = after s.timer.count .watched) ∧
      (te → meets → last → (t.panel p).tear = after (s.timer.count + 1) (.coming (decide (c.skipCtr = 0)))))) ∧
  ∀ (s : State) (levels : Half), ∃ t, exec (.teFilterSample levels) s = .next t ∧
    t = { s with panels := t.panels, pins := t.pins } ∧ t.pins = { s.pins with te := t.pins.te } ∧
    ∀ p : PanelId,
      let c := (s.panel p).tear
      t.panel p = { s.panel p with tear := { c with run := (t.panel p).tear.run } } ∧
      (c.filter = .none → t.panel p = s.panel p ∧ hasPanel t.pins.te p = hasPanel s.pins.te p) ∧
      ∀ n, c.filter.samples = some n → hasPanel t.pins.te p = hasPanel levels p ∧
        (hasPanel levels p = c.qualified → (t.panel p).tear.run = 0) ∧
        (hasPanel levels p ≠ c.qualified → c.run + 1 < n → (t.panel p).tear.run = c.run + 1) ∧
        (hasPanel levels p ≠ c.qualified → n ≤ c.run + 1 → (t.panel p).tear.run = c.run)

/-- When the hold of an OPEN channel has run out its window closes; when an armed watch has reached the TE watch value the
channel enters UNTRACKED, TE_LOST and the FAULT bit are set and the panel state stays; else neither event arises. A TE event
and the boundary that ends the hold of an OPEN channel come out as R100 gives in either order: the window ends open, one
lower in its hold when the TE event is first, or closed, and skip counter, watch and estimate are the same. A TE event and a
boundary that would bring the watch to the TE watch value come out as R102 gives: with the TE event first no loss occurs, with
the boundary first TE_LOST is raised and the TE event then opens a window. The mark that such a TE event leaves for the
boundary is the model's, log 31. -/
def Obligations.WindowsCloseAndTrackingIsLost : Prop :=
  (∀ (s : State) (p : PanelId),
    let r := s.panel p
    let expired := r.state ≠ .unbound ∧ r.tear.state = .opened ∧ r.tear.hold = 0 ∧ r.tear.meeting = .none ∧
      s.part ≠ .resetting
    let lost := r.state ≠ .unbound ∧ r.tear.armed = true ∧ r.desc.policy = .blank ∧ r.display = .awake ∧
      r.desc.teWatch ≤ r.tear.watch ∧ s.part ≠ .resetting
    (expired → ∃ t, exec (.holdExpiry p) s = .next t ∧ t = { s with panels := t.panels, tol := t.tol } ∧
      SameButPanel p s t ∧ t.panel p = { r with tear := { r.tear with state := .closed, budget := 0, hold := 0 } }) ∧
    (¬ expired → exec (.holdExpiry p) s = .next s) ∧
    (lost → ∃ t, exec (.teLost p) s = .next t ∧ t = { s with panels := t.panels, ctl := t.ctl, tol := t.tol } ∧
      SameButPanel p s t ∧ t.ctl = { s.ctl with fault := t.ctl.fault } ∧
      (∀ q : PanelId, hasPanel t.ctl.fault q = (hasPanel s.ctl.fault q || q == p)) ∧
      t.panel p = { r with fault := .teLost, tear := { r.tear with
        state := .untracked, budget := 0, hold := 0, skipCtr := 0, estimate := 0, base := false, watch := 0
        armed := false, meeting := .none } }) ∧
    (¬ lost → exec (.teLost p) s = .next s)) ∧
  (∀ (s : State) (p : PanelId) (level : Bool) (len progress : Nat), s.part = .running →
    s.timer.period = some (len, progress) → len ≤ progress + 1 → (s.panel p).tear.armed = true →
    1 ≤ (s.panel p).desc.teWatch → (s.panel p).desc.teWatch ≤ 255 →
    (s.panel p).desc.teWatch ≤ (s.panel p).tear.watch + 1 →
    (s.panel p).tear.edgeDue level = true → s.isTeEvent p level = true →
    (∃ a b, exec (.qualifiedEdge p { level := level, together := true }) s = .next a ∧
      (a.panel p).tear.watch = 0 ∧ exec .periodBoundary a = .next b ∧ exec (.teLost p) b = .next b ∧
      (b.panel p).fault = (s.panel p).fault ∧ hasPanel b.ctl.fault p = hasPanel s.ctl.fault p ∧
      (b.panel p).tear.armed = true) ∧
    ((s.panel p).tear.meeting = .none →
      ∃ d e f, exec .periodBoundary s = .next d ∧ exec (.teLost p) d = .next e ∧
        exec (.qualifiedEdge p { level := level, together := false }) e = .next f ∧
        (e.panel p).fault = .teLost ∧ hasPanel e.ctl.fault p = true ∧ (e.panel p).tear.state = .untracked ∧
        (f.panel p).tear.state = .opened ∧ (f.panel p).fault = .teLost)) ∧
  ∀ (s : State) (p : PanelId) (level : Bool) (len progress : Nat), s.part = .running →
    s.timer.period = some (len, progress) → len ≤ progress + 1 → (s.panel p).tear.state = .opened →
    (s.panel p).tear.hold = 1 → (s.panel p).tear.meeting = .none → (s.panel p).tear.edgeDue level = true →
    s.isTeEvent p level = true →
    ∃ a b c d e f, exec (.qualifiedEdge p { level := level, together := true }) s = .next a ∧
      exec .periodBoundary a = .next b ∧
      exec (.holdExpiry p) b = .next c ∧ exec .periodBoundary s = .next d ∧ exec (.holdExpiry p) d = .next e ∧
      exec (.qualifiedEdge p { level := level, together := false }) e = .next f ∧
      let desc := (s.panel p).desc
      let x := (c.panel p).tear
      let y := (f.panel p).tear
      (x.skipCtr = y.skipCtr ∧ x.watch = y.watch ∧ x.estimate = y.estimate) ∧
      ((s.panel p).tear.skipCtr = 0 → x.state = .opened ∧ y.state = .opened ∧ x.budget = desc.budget ∧
        y.budget = desc.budget ∧ y.hold = desc.hold ∧ x.hold = desc.hold - 1) ∧
      ((s.panel p).tear.skipCtr ≠ 0 → x.state = .closed ∧ y.state = .closed)

/-! ### Time -/

/-- A period boundary of a RUNNING part: the count goes up, the next period begins at once with the length PERIOD_UNITS then
gives, and every block takes it as its rule gives; the chains due and watching are polled in some order. That the passed tickets are
marked for EXPIRY (log 13) and that a hold, settle, watch or timeout that runs out waits at its end for its own command
(log 14) are the model's choices; so is that the boundary arises in the last unit of the period, and in no unit before it
(log 2), and how a TE event that fell together with it is met (log 31). -/
def Obligations.PeriodBoundariesMoveEveryCounter : Prop :=
  ∀ s : State,
    (s.part ≠ .running → exec .periodBoundary s = .next s) ∧
    (∀ len progress, s.timer.period = some (len, progress) → progress + 1 < len →
      exec .periodBoundary s = .next s) ∧
    (s.timer.period = none → exec .periodBoundary s = .next s) ∧
    (∀ len progress, s.part = .running → s.timer.period = some (len, progress) → len ≤ progress + 1 →
      ∃ t, exec .periodBoundary s = .next t ∧
      let n := s.timer.count + 1
      let due (p : PanelId) : Prop :=
        n.toNat % 2 ^ (s.panel p).desc.intervalCode = p.val % 2 ^ (s.panel p).desc.intervalCode
      let watching (p : PanelId) : Prop := due p ∧ (s.panel p).state = .ready ∧ (s.panel p).unbindPending = false ∧
        (s.panel p).cursor.watching = true
      t.timer = { count := n, period := some (if s.ctl.units = 0 then 64 else s.ctl.units.toNat, 0) } ∧
      t = { s with
        timer := t.timer, panels := t.panels, lanes := t.lanes, gates := t.gates, port := t.port, tol := t.tol
        freeCount := t.freeCount } ∧
      (∀ p : PanelId,
        let r := s.panel p
        let u := t.panel p
        (r.state = .unbound → u = r) ∧
        (r.state ≠ .unbound →
          u = { r with
            credit := u.credit, parkWait := u.parkWait, settle := u.settle, window := u.window, repoll := u.repoll
            access := u.access
            tear := { r.tear with hold := u.tear.hold, watch := u.tear.watch, meeting := u.tear.meeting } } ∧
          (due p → u.credit = r.desc.allowance) ∧ (¬ due p → u.credit = r.credit) ∧
          u.parkWait = (if r.state = .parking then r.parkWait - 1 else r.parkWait) ∧
          u.settle = (if r.display = .settlingToAsleep ∨ r.display = .settlingToAwake then r.settle - 1
            else r.settle) ∧
          u.tear.hold = (if r.tear.state = .opened then r.tear.hold - 1 else r.tear.hold) ∧
          u.tear.watch = (if r.tear.armed = true ∧ r.desc.policy = .blank ∧ r.display = .awake ∧
              (r.tear.meeting = .none ∨ r.tear.meeting = .stands)
            then min (r.tear.watch + 1) 255 else r.tear.watch) ∧
          u.tear.meeting = (if r.tear.meeting = .coming true ∧ r.tear.state = .opened ∧ r.tear.hold ≤ 1 then .stands
            else .none) ∧
          u.window.map (·.ticket) = r.window.map (·.ticket) ∧
          (∀ i e, u.window[i]? = some e → (e.due = true ↔ ¬ (r.head.started = true ∧ i = 0) ∧
            (∃ rect : Rect, e.ticket.body.rect? = some rect) ∧
            ∃ latest, e.ticket.latest = some latest ∧ 0 < (n - latest).toInt)) ∧
          (watching p → r.access = .idle → u.access = .polling) ∧
          (¬ (watching p ∧ r.access = .idle) → u.access = r.access) ∧
          (watching p → r.access = .polling → u.repoll = true) ∧
          (¬ (watching p ∧ r.access = .polling) → u.repoll = r.repoll))) ∧
      (∀ l : LaneId, t.lane l = { s.lane l with reserveCredit :=
        if 0 < (s.lane l).capacity then (s.lane l).reserveSize else (s.lane l).reserveCredit }) ∧
      (∀ g : GateId, t.gate g = { s.gate g with timeout :=
        if (s.gate g).armed = true then (s.gate g).timeout.map (· - 1) else (s.gate g).timeout }) ∧
      ∃ ps : List PanelId, ps.Nodup ∧ (∀ p : PanelId, p ∈ ps ↔ watching p ∧ (s.panel p).access = .idle) ∧
        t.port = { s.port with chainQ := s.port.chainQ ++ ps.map fun p =>
          { owner := .link p, addr := (s.panel p).cursor.addr, len := 4 } })

/-- The end of a settle changes the display and, for a wake, restarts tracking, and a started SLEEP or WAKE head is written
DONE; before the counter has run out the event does not arise. -/
def Obligations.SettlesEndInTheirSubState : Prop :=
  ∀ (s : State) (p : PanelId),
    let r := s.panel p
    let due := r.state ≠ .unbound ∧ (r.display = .settlingToAsleep ∨ r.display = .settlingToAwake) ∧ r.settle = 0 ∧
      s.part ≠ .resetting
    (¬ due → exec (.settleEnd p) s = .next s) ∧
    (due → ∃ x : State, exec (.settleEnd p) s = .next x.commit ∧
      x = { s with panels := x.panels, port := x.port } ∧ SameButPanel p s x ∧
      (x.panel p).state = r.state ∧
      (r.display = .settlingToAsleep → (x.panel p).display = .asleep ∧ (x.panel p).tear = r.tear) ∧
      (r.display = .settlingToAwake → (x.panel p).display = .awake ∧
        (x.panel p).tear = r.tear.enterUntracked (0 < r.desc.teWatch)) ∧
      ∀ e rest, r.window = e :: rest →
        (r.head.started = true ∧ (r.display = .settlingToAsleep ∧ e.ticket.body = .sleep ∨
            r.display = .settlingToAwake ∧ e.ticket.body = .wake) →
          (x.panel p).window = rest ∧ (x.panel p).head = Head.clear ∧
          x.port.writeQ = s.port.writeQ ++
            [finalWrite p false (e, { state := .done, reason := .none, detail := 0 })]) ∧
        (¬ (r.head.started = true ∧ (r.display = .settlingToAsleep ∧ e.ticket.body = .sleep ∨
            r.display = .settlingToAwake ∧ e.ticket.body = .wake)) →
          (x.panel p).window = r.window ∧ x.port = s.port))

/-- A park wait that has run out orders the abort: a STALLED lane deasserts at once, the panel becomes PARKED and its head is
written ABORTED/PARK_FORCED with the cut strip counted; a SHIFTING lane finishes its byte first, and the same follows at its
end, a panel that has been HALTED meanwhile staying HALTED; PARK completes with PARK_FORCED when that write is answered. An
abort that finds the lane in ENDING comes too late (R134, R139): nothing is cut, and the completion then parks the panel and
ends PARK with OK. Where the boundary falls together with the completion and is taken first, the transaction is cut there too
(R40); that R40 has this case alone of ENDING is the model's reading, log 36. -/
def Obligations.ForcedParksCutTheTransaction : Prop :=
  (∀ (s : State) (p : PanelId) (together : Bool),
    let r := s.panel p
    let l := r.desc.lane
    let due := s.ctl.op = .parkWait p ∧ r.state = .parking ∧ r.parkWait = 0 ∧ s.part ≠ .resetting
    let cmd := Instr.forcedPark { panel := p, together := together }
    (¬ due → exec cmd s = .next s) ∧
    (∀ tx e rest, due → (s.lane l).tx = some tx → tx.panel = p → r.window = e :: rest →
      ((s.lane l).link = .stalled ∨ (s.lane l).link = .ending ∧ together = true →
       ∃ x : State, exec cmd s = .next x.commit ∧ SameButLane l s x ∧ x.lane l = s.cutLane l ∧
        (x.lane l).link = .gapAfterAbort ∧ (x.lane l).sel = none ∧ SameButPanel p s x ∧
        (x.panel p).state = .parked ∧ (x.panel p).cont = false ∧ (x.panel p).window = rest ∧
        (x.panel p).head = Head.clear ∧ x.ctl.op = .parkWrite p ∧
        x.port.writeQ = s.port.writeQ ++ [finalWrite p true (e, {
          state := .aborted, reason := .parkForced
          detail := if (e.ticket.body.rect?).isSome = true then
            r.rowsDone + (match tx.work with | .strip n => n | _ => 0) else 0 })]) ∧
      ((s.lane l).link = .shifting → ∃ x : State, exec cmd s = .next x.commit ∧
        (x.lane l).link = .aborting ∧ (x.lane l).shift = (s.lane l).shift ∧ (x.lane l).stage = none ∧
        (x.lane l).cause = some .forcedPark ∧ x.panels = s.panels ∧ x.ctl = { s.ctl with op := .parkForced p } ∧
        x.port = { s.port with pixQ := s.port.pixQ.set l [] }) ∧
      ((s.lane l).link = .ending → together = false → ∃ x : State, exec cmd s = .next x.commit ∧
        x = { s with ctl := { s.ctl with op := .parkForced p } }))) ∧
  (∀ (s : State) (l : LaneId) (tx : Tx), s.part ≠ .resetting → (s.lane l).link = .ending → (s.lane l).tx = some tx →
    s.ctl.op = .parkForced tx.panel → (s.panel tx.panel).state = .parking →
    ∃ x : State, exec (.transactionCompletion l) s = .next x.commit ∧ (x.lane l).link = .idle ∧
      (x.panel tx.panel).state = .parked ∧
      x.ctl = { s.ctl with resState := .done, result := .ok, done := true, op := .none, busErr := false }) ∧
  (∀ (s : State) (l : LaneId) (ldi : Half) (tx : Tx) (e : Entry) (rest : List Entry), s.part ≠ .resetting →
    (s.lane l).link = .aborting → (s.lane l).tx = some tx → (s.lane l).cause = some .forcedPark →
    (s.panel tx.panel).window = e :: rest →
    let p := tx.panel
    let r := s.panel p
    let forced := s.ctl.op = .parkForced p
    ∃ x : State, exec (.byteTimeEnd l ldi) s = .next x.commit ∧ SameButPanel p s x ∧ SameButLane l s x ∧
      x.lane l = s.cutLane l ∧ (x.panel p).cont = false ∧ (x.panel p).window = rest ∧ (x.panel p).head = .clear ∧
      (r.state = .parking → (x.panel p).state = .parked) ∧ (r.state ≠ .parking → (x.panel p).state = r.state) ∧
      x.port = { s.port with writeQ := s.port.writeQ ++ [finalWrite p (decide forced) (e, {
        state := .aborted, reason := .parkForced, detail := r.cutDetail e tx.work })] } ∧
      (forced → x.ctl = { s.ctl with op := .parkWrite p }) ∧
      (¬ s.ctl.op.parks p → x.ctl = s.ctl)) ∧
  ∀ (s : State) (p : PanelId), s.ctl.op = .parkWrite p →
    (s.port.statusOfRequest = true → s.advance = s) ∧
    (s.port.statusOfRequest = false → s.advance = s.complete .parkForced)

/-- Expiry writes EXPIRED with detail 0 for every marked ticket of the window that is not the started head, in chain order,
and leaves the others; with none marked the event does not arise. The mark, and that all marked tickets end together, are the
model's choices, log 13 and 20. -/
def Obligations.ExpiryEndsTheMarkedTickets : Prop :=
  ∀ (s : State) (p : PanelId),
    let r := s.panel p
    let gone (e : Entry × Nat) : Bool := e.1.due && !(r.head.started && e.2 == 0)
    let ends := r.window.zipIdx.filter gone
    (ends = [] → exec (.expiry p) s = .next s) ∧
    (ends ≠ [] → r.state ≠ .unbound → s.part ≠ .resetting →
      ∃ x : State, exec (.expiry p) s = .next x.commit ∧ x = { s with panels := x.panels, port := x.port } ∧
        SameButPanel p s x ∧
        (x.panel p).window = (r.window.zipIdx.filter fun e => !gone e).map (·.1) ∧
        x.port = { s.port with writeQ := s.port.writeQ ++ (ends.map fun e =>
          finalWrite p false (e.1, { state := .expired, reason := .none, detail := 0 })) })

/-- Every ARMED entry whose timeout has run out breaks with reason TIMEOUT, in ascending order of entries: every listed GATE
ticket is written GATE_BROKEN in arrival order and leaves its window; the other entries stay as they are; with none the event
does not arise. -/
def Obligations.GateTimeoutsBreakTheirEntries : Prop :=
  ∀ s : State,
    let out (g : GateId) : Prop := (s.gate g).armed = true ∧ (s.gate g).timeout = some 0
    let gs := s.timedOutGates
    (∀ g : GateId, g ∈ gs ↔ out g) ∧
    ((s.part = .resetting ∨ ∀ g : GateId, ¬ out g) → exec .gateTimeout s = .next s) ∧
    (s.part ≠ .resetting → (∃ g : GateId, out g) →
      exec .gateTimeout s = .next (State.commit (s.breakGates Gate.timedOut .timeout fun _ => false)) ∧
      ∃ x : State, exec .gateTimeout s = .next x.commit ∧
        (∀ g : GateId, (out g → x.gate g = Gate.free) ∧ (¬ out g → x.gate g = s.gate g)) ∧
        x = { s with panels := x.panels, gates := x.gates, port := x.port } ∧
        (∀ q : PanelId, (x.panel q).state = (s.panel q).state ∧ (x.panel q).tear = (s.panel q).tear) ∧
        (∀ (g : GateId), out g → ∀ q ∈ (s.gate g).list, (x.panel q).gateAt = none) ∧
        ∀ front : PanelId → Entry, s.Fronts gs front →
          (∀ q : PanelId, x.panel q = s.broken gs q) ∧
          x.port = { s.port with writeQ := s.port.writeQ ++
            ((gs.flatMap fun g => (s.gate g).list).map fun q => finalWrite q false (front q, gateBroken .timeout)) })

/-! ### Tolerance reporting -/

/-- TOL_ACCEPT is taken at a rising edge: the message in flight ends, a pending value goes out in its place, and with none
in flight nothing happens; the fall of the input only lets it rise again. -/
def Obligations.AcceptsEndTheMessageInFlight : Prop :=
  ∀ s : State,
    (s.pins.tolAccept = true → exec .tolAccept s = .next s) ∧
    (s.pins.tolAccept = false → ∃ t, exec .tolAccept s = .next t ∧
      t = { s with pins := { s.pins with tolAccept := true }, tol := t.tol } ∧
      t.tol = { s.tol with inFlight := t.tol.inFlight, slot := t.tol.slot } ∧
      (s.tol.inFlight = none → t.tol = s.tol) ∧
      (∀ v, s.tol.inFlight ≠ none → s.tol.slot = some v → t.tol.inFlight = some v ∧ t.tol.slot = none) ∧
      (s.tol.inFlight ≠ none → s.tol.slot = none → t.tol.inFlight = none ∧ t.tol.slot = none ∧ t.tolValid = false)) ∧
    exec .tolAcceptLow s = .next { s with pins := { s.pins with tolAccept := false } }

/-- A recompute takes the highest tier whose minimum the predicted idle time reaches, follows a fall as the policy gives,
stays ACTIVE while RESETTING or with no record loaded, and sends a message, of at most the limit, exactly when the level
changes and TOL_ENABLE is 1. The predicted idle time is 0 while the port holds anything, a lane is not idle or a panel is
eligible, 65535 with the part not RUNNING or no panel READY, and else the least of the panels' due and tear terms, limited to
65535. That the tear term counts on its three listed conditions alone, whatever THROTTLE is, is the model's choice, log 34. -/
def Obligations.RecomputesFollowTheIdleTime : Prop :=
  (∀ s : State,
    let d := s.predictedIdle
    let rec' := s.tol.record
    let comp : TolLevel := if rec'.highMin ≤ d then .high else if rec'.mediumMin ≤ d then .medium
      else if rec'.lowMin ≤ d then .low else .active
    let t := s.recompute
    (s.part = .resetting ∨ s.tol.loaded = false → t.tol.level = .active) ∧
    (s.part ≠ .resetting → s.tol.loaded = true →
      (s.tol.level.rank ≤ comp.rank → t.tol.level = comp) ∧
      (comp.rank < s.tol.level.rank → rec'.policy = .stepped → t.tol.level = comp) ∧
      (comp.rank < s.tol.level.rank → rec'.policy = .direct → t.tol.level = .active)) ∧
    (t.tol.level = s.tol.level → t = s) ∧
    (t.tol.level ≠ s.tol.level → s.ctl.tolEnable = false → t = { s with tol := { s.tol with level := t.tol.level } }) ∧
    (t.tol.level ≠ s.tol.level → s.ctl.tolEnable = true → s.tol.inFlight = none →
      t = { s with tol := { s.tol with level := t.tol.level, inFlight := some (rec'.message t.tol.level) } }) ∧
    (t.tol.level ≠ s.tol.level → s.ctl.tolEnable = true → s.tol.inFlight ≠ none →
      t = { s with tol := { s.tol with level := t.tol.level, slot := some (rec'.message t.tol.level) } })) ∧
  (∀ (rec' : TolRecord) (l : TolLevel), (rec'.message l).toNat = min (rec'.valueOf l).toNat rec'.limit.toNat) ∧
  (∀ s : State, s.predictedIdle ≤ 65535) ∧
  (∀ s : State, (s.port.Holds ∨ (∃ l : LaneId, (s.lane l).link ≠ .idle) ∨ ∃ p : PanelId, s.eligible p = true) →
    s.predictedIdle = 0) ∧
  (∀ s : State, ¬ s.port.Holds → (∀ l : LaneId, (s.lane l).link = .idle) → (∀ p : PanelId, s.eligible p = false) →
    let asked (p : PanelId) : Prop := (s.panel p).state = .ready ∧ (s.panel p).unbindPending = false
    (s.part ≠ .running ∨ (∀ p : PanelId, (s.panel p).state ≠ .ready) → s.predictedIdle = 65535) ∧
    (s.part = .running → (∃ p : PanelId, (s.panel p).state = .ready) →
      (∀ p : PanelId, asked p → s.predictedIdle ≤ s.idleTerm p) ∧
      (s.predictedIdle = 65535 ∨ ∃ p : PanelId, asked p ∧ s.predictedIdle = s.idleTerm p))) ∧
  (∀ (s : State) (p : PanelId),
    let r := s.panel p
    let gated := r.desc.policy = .blank ∧ r.display = .awake ∧ (r.tear.state ≠ .untracked ∨ r.desc.fallback = .wait)
    let due := dueTerm s.timer.count p (2 ^ r.desc.intervalCode)
    (∀ n : Nat, s.tearTerm p = some n ↔ gated ∧ r.tear.estimate ≠ 0 ∧
      (∃ pl, r.planUnder (s.profileOf p) (min r.credit r.desc.budget) = some pl ∧ 1 ≤ pl.rows) ∧
      n = (r.tear.lastTe + BitVec.ofNat 32 r.tear.estimate - s.timer.count).toInt.toNat) ∧
    (s.tearTerm p = none → s.idleTerm p = due) ∧
    ∀ n : Nat, s.tearTerm p = some n → s.idleTerm p = min due n) ∧
  ∀ (count : Word) (p : PanelId) (code : Nat), let n := dueTerm count p (2 ^ code)
    1 ≤ n ∧ n ≤ 2 ^ code ∧ (count.toNat + n) % 2 ^ code = p.val % 2 ^ code

/-! ### Invariants that every step keeps -/

/-- At most 8 reads and 4 writes are outstanding, a period is in progress exactly while RUNNING, a select is low exactly
while its lane serves a transaction, and the pending slot is filled only behind a message in flight. -/
def Obligations.StepsKeepPortPeriodSelectsAndSlot : Prop :=
  ∀ s t : State, s.BusOk → s.PeriodOk → s.SelectsOk → s.SlotOk → step s = .next t →
    t.BusOk ∧ t.PeriodOk ∧ t.SelectsOk ∧ t.SlotOk

/-- An entry is ARMED exactly when its arrival list is non-empty, lists hold members only, a FREE entry holds nothing. A panel
is listed at most once and in one list only, the one its gate arrival field names, and its head is then the started GATE
ticket that arrived; a transaction in flight is its panel's, whose head is started and no GATE. So the listed panels of any
entries have their arrived tickets at the front. -/
def Obligations.StepsKeepGateEntriesInOrder : Prop :=
  (∀ s t : State, s.GatesOk → step s = .next t → t.GatesOk) ∧
  (∀ s t : State, s.GatesOk → s.ArrivalsOk → s.FlightsOk → s.RequestOk → s.TargetsOk → step s = .next t →
    t.ArrivalsOk ∧ t.FlightsOk) ∧
  ∀ (s : State) (gs : List GateId), s.ArrivalsOk → gs.Nodup → ∃ front : PanelId → Entry, s.Fronts gs front

/-- A panel's credit lies within its allowance, its budget within the window budget, a reserve credit within its reserve
size. -/
def Obligations.StepsKeepAccountsWithinBounds : Prop :=
  ∀ s t : State, s.AccountsOk → step s = .next t → t.AccountsOk

/-- A panel is in PARKING only while its PARK request is in progress. -/
def Obligations.StepsKeepParkingUnderItsPark : Prop :=
  ∀ s t : State, s.ParkingOk → step s = .next t → t.ParkingOk

/-- For each lane, the sum of the loads of the panels bound to it is its committed load and never exceeds the lane's
periodic capacity. -/
def Obligations.StepsKeepLoadsWithinCapacity : Prop :=
  ∀ s t : State, s.LoadsOk → step s = .next t → t.LoadsOk

end
end

