-- ==== Sys2Proof/Laws/State.lean ====
section
/-! SUPPORT. The fields of State after each update, and reading a home after writing one. -/
namespace Sys2Proof.Machine

/-! ### Two states with the same fields are the same -/

/-- State has no other content than its fields. -/
theorem State.eq_of_fields {s t : State} (part : s.part = t.part) (timer : s.timer = t.timer) (ctl : s.ctl = t.ctl)
    (tol : s.tol = t.tol) (port : s.port = t.port) (panels : s.panels = t.panels) (profiles : s.profiles = t.profiles)
    (lanes : s.lanes = t.lanes) (gates : s.gates = t.gates) (pins : s.pins = t.pins)
    (freeCount : s.freeCount = t.freeCount) (pending : s.pending = t.pending) : s = t := by
  cases s
  cases t
  simp_all

/-! ### Every field after every update -/

section
variable (s : State) (p : PanelId) (r : Panel)

@[simp] theorem State.setPanel_part : (s.setPanel p r).part = s.part := rfl
@[simp] theorem State.setPanel_timer : (s.setPanel p r).timer = s.timer := rfl
@[simp] theorem State.setPanel_ctl : (s.setPanel p r).ctl = s.ctl := rfl
@[simp] theorem State.setPanel_tol : (s.setPanel p r).tol = s.tol := rfl
@[simp] theorem State.setPanel_port : (s.setPanel p r).port = s.port := rfl
@[simp] theorem State.setPanel_panels : (s.setPanel p r).panels = s.panels.set p r := rfl
@[simp] theorem State.setPanel_profiles : (s.setPanel p r).profiles = s.profiles := rfl
@[simp] theorem State.setPanel_lanes : (s.setPanel p r).lanes = s.lanes := rfl
@[simp] theorem State.setPanel_gates : (s.setPanel p r).gates = s.gates := rfl
@[simp] theorem State.setPanel_pins : (s.setPanel p r).pins = s.pins := rfl
@[simp] theorem State.setPanel_freeCount : (s.setPanel p r).freeCount = s.freeCount := rfl
@[simp] theorem State.setPanel_pending : (s.setPanel p r).pending = s.pending := rfl
@[simp] theorem State.setPanel_lane (q : LaneId) : (s.setPanel p r).lane q = s.lane q := rfl
@[simp] theorem State.setPanel_gate (q : GateId) : (s.setPanel p r).gate q = s.gate q := rfl
@[simp] theorem State.setPanel_profile (q : ProfileId) : (s.setPanel p r).profile q = s.profile q := rfl

end

section
variable (s : State) (l : LaneId) (r : Lane)

@[simp] theorem State.setLane_part : (s.setLane l r).part = s.part := rfl
@[simp] theorem State.setLane_timer : (s.setLane l r).timer = s.timer := rfl
@[simp] theorem State.setLane_ctl : (s.setLane l r).ctl = s.ctl := rfl
@[simp] theorem State.setLane_tol : (s.setLane l r).tol = s.tol := rfl
@[simp] theorem State.setLane_port : (s.setLane l r).port = s.port := rfl
@[simp] theorem State.setLane_panels : (s.setLane l r).panels = s.panels := rfl
@[simp] theorem State.setLane_profiles : (s.setLane l r).profiles = s.profiles := rfl
@[simp] theorem State.setLane_lanes : (s.setLane l r).lanes = s.lanes.set l r := rfl
@[simp] theorem State.setLane_gates : (s.setLane l r).gates = s.gates := rfl
@[simp] theorem State.setLane_pins : (s.setLane l r).pins = s.pins := rfl
@[simp] theorem State.setLane_freeCount : (s.setLane l r).freeCount = s.freeCount := rfl
@[simp] theorem State.setLane_pending : (s.setLane l r).pending = s.pending := rfl
@[simp] theorem State.setLane_panel (q : PanelId) : (s.setLane l r).panel q = s.panel q := rfl
@[simp] theorem State.setLane_gate (q : GateId) : (s.setLane l r).gate q = s.gate q := rfl
@[simp] theorem State.setLane_profile (q : ProfileId) : (s.setLane l r).profile q = s.profile q := rfl

end

section
variable (s : State) (g : GateId) (r : Gate)

@[simp] theorem State.setGate_part : (s.setGate g r).part = s.part := rfl
@[simp] theorem State.setGate_timer : (s.setGate g r).timer = s.timer := rfl
@[simp] theorem State.setGate_ctl : (s.setGate g r).ctl = s.ctl := rfl
@[simp] theorem State.setGate_tol : (s.setGate g r).tol = s.tol := rfl
@[simp] theorem State.setGate_port : (s.setGate g r).port = s.port := rfl
@[simp] theorem State.setGate_panels : (s.setGate g r).panels = s.panels := rfl
@[simp] theorem State.setGate_profiles : (s.setGate g r).profiles = s.profiles := rfl
@[simp] theorem State.setGate_lanes : (s.setGate g r).lanes = s.lanes := rfl
@[simp] theorem State.setGate_gates : (s.setGate g r).gates = s.gates.set g r := rfl
@[simp] theorem State.setGate_pins : (s.setGate g r).pins = s.pins := rfl
@[simp] theorem State.setGate_freeCount : (s.setGate g r).freeCount = s.freeCount := rfl
@[simp] theorem State.setGate_pending : (s.setGate g r).pending = s.pending := rfl
@[simp] theorem State.setGate_panel (q : PanelId) : (s.setGate g r).panel q = s.panel q := rfl
@[simp] theorem State.setGate_lane (q : LaneId) : (s.setGate g r).lane q = s.lane q := rfl
@[simp] theorem State.setGate_profile (q : ProfileId) : (s.setGate g r).profile q = s.profile q := rfl

end

section
variable (s : State) (i : ProfileId) (r : Profile)

@[simp] theorem State.setProfile_part : (s.setProfile i r).part = s.part := rfl
@[simp] theorem State.setProfile_timer : (s.setProfile i r).timer = s.timer := rfl
@[simp] theorem State.setProfile_ctl : (s.setProfile i r).ctl = s.ctl := rfl
@[simp] theorem State.setProfile_tol : (s.setProfile i r).tol = s.tol := rfl
@[simp] theorem State.setProfile_port : (s.setProfile i r).port = s.port := rfl
@[simp] theorem State.setProfile_panels : (s.setProfile i r).panels = s.panels := rfl
@[simp] theorem State.setProfile_profiles : (s.setProfile i r).profiles = s.profiles.set i r := rfl
@[simp] theorem State.setProfile_lanes : (s.setProfile i r).lanes = s.lanes := rfl
@[simp] theorem State.setProfile_gates : (s.setProfile i r).gates = s.gates := rfl
@[simp] theorem State.setProfile_pins : (s.setProfile i r).pins = s.pins := rfl
@[simp] theorem State.setProfile_freeCount : (s.setProfile i r).freeCount = s.freeCount := rfl
@[simp] theorem State.setProfile_pending : (s.setProfile i r).pending = s.pending := rfl
@[simp] theorem State.setProfile_panel (q : PanelId) : (s.setProfile i r).panel q = s.panel q := rfl
@[simp] theorem State.setProfile_lane (q : LaneId) : (s.setProfile i r).lane q = s.lane q := rfl
@[simp] theorem State.setProfile_gate (q : GateId) : (s.setProfile i r).gate q = s.gate q := rfl

end

section
variable (s : State) (r : Port)

@[simp] theorem State.setPort_part : (s.setPort r).part = s.part := rfl
@[simp] theorem State.setPort_timer : (s.setPort r).timer = s.timer := rfl
@[simp] theorem State.setPort_ctl : (s.setPort r).ctl = s.ctl := rfl
@[simp] theorem State.setPort_tol : (s.setPort r).tol = s.tol := rfl
@[simp] theorem State.setPort_port : (s.setPort r).port = r := rfl
@[simp] theorem State.setPort_panels : (s.setPort r).panels = s.panels := rfl
@[simp] theorem State.setPort_profiles : (s.setPort r).profiles = s.profiles := rfl
@[simp] theorem State.setPort_lanes : (s.setPort r).lanes = s.lanes := rfl
@[simp] theorem State.setPort_gates : (s.setPort r).gates = s.gates := rfl
@[simp] theorem State.setPort_pins : (s.setPort r).pins = s.pins := rfl
@[simp] theorem State.setPort_freeCount : (s.setPort r).freeCount = s.freeCount := rfl
@[simp] theorem State.setPort_pending : (s.setPort r).pending = s.pending := rfl
@[simp] theorem State.setPort_panel (q : PanelId) : (s.setPort r).panel q = s.panel q := rfl
@[simp] theorem State.setPort_lane (q : LaneId) : (s.setPort r).lane q = s.lane q := rfl
@[simp] theorem State.setPort_gate (q : GateId) : (s.setPort r).gate q = s.gate q := rfl
@[simp] theorem State.setPort_profile (q : ProfileId) : (s.setPort r).profile q = s.profile q := rfl

end

section
variable (s : State) (r : Control)

@[simp] theorem State.setCtl_part : (s.setCtl r).part = s.part := rfl
@[simp] theorem State.setCtl_timer : (s.setCtl r).timer = s.timer := rfl
@[simp] theorem State.setCtl_ctl : (s.setCtl r).ctl = r := rfl
@[simp] theorem State.setCtl_tol : (s.setCtl r).tol = s.tol := rfl
@[simp] theorem State.setCtl_port : (s.setCtl r).port = s.port := rfl
@[simp] theorem State.setCtl_panels : (s.setCtl r).panels = s.panels := rfl
@[simp] theorem State.setCtl_profiles : (s.setCtl r).profiles = s.profiles := rfl
@[simp] theorem State.setCtl_lanes : (s.setCtl r).lanes = s.lanes := rfl
@[simp] theorem State.setCtl_gates : (s.setCtl r).gates = s.gates := rfl
@[simp] theorem State.setCtl_pins : (s.setCtl r).pins = s.pins := rfl
@[simp] theorem State.setCtl_freeCount : (s.setCtl r).freeCount = s.freeCount := rfl
@[simp] theorem State.setCtl_pending : (s.setCtl r).pending = s.pending := rfl
@[simp] theorem State.setCtl_panel (q : PanelId) : (s.setCtl r).panel q = s.panel q := rfl
@[simp] theorem State.setCtl_lane (q : LaneId) : (s.setCtl r).lane q = s.lane q := rfl
@[simp] theorem State.setCtl_gate (q : GateId) : (s.setCtl r).gate q = s.gate q := rfl
@[simp] theorem State.setCtl_profile (q : ProfileId) : (s.setCtl r).profile q = s.profile q := rfl

end

section
variable (s : State) (r : Tolerance)

@[simp] theorem State.setTol_part : (s.setTol r).part = s.part := rfl
@[simp] theorem State.setTol_timer : (s.setTol r).timer = s.timer := rfl
@[simp] theorem State.setTol_ctl : (s.setTol r).ctl = s.ctl := rfl
@[simp] theorem State.setTol_tol : (s.setTol r).tol = r := rfl
@[simp] theorem State.setTol_port : (s.setTol r).port = s.port := rfl
@[simp] theorem State.setTol_panels : (s.setTol r).panels = s.panels := rfl
@[simp] theorem State.setTol_profiles : (s.setTol r).profiles = s.profiles := rfl
@[simp] theorem State.setTol_lanes : (s.setTol r).lanes = s.lanes := rfl
@[simp] theorem State.setTol_gates : (s.setTol r).gates = s.gates := rfl
@[simp] theorem State.setTol_pins : (s.setTol r).pins = s.pins := rfl
@[simp] theorem State.setTol_freeCount : (s.setTol r).freeCount = s.freeCount := rfl
@[simp] theorem State.setTol_pending : (s.setTol r).pending = s.pending := rfl
@[simp] theorem State.setTol_panel (q : PanelId) : (s.setTol r).panel q = s.panel q := rfl
@[simp] theorem State.setTol_lane (q : LaneId) : (s.setTol r).lane q = s.lane q := rfl
@[simp] theorem State.setTol_gate (q : GateId) : (s.setTol r).gate q = s.gate q := rfl
@[simp] theorem State.setTol_profile (q : ProfileId) : (s.setTol r).profile q = s.profile q := rfl

end

section
variable (s : State) (r : Timer)

@[simp] theorem State.setTimer_part : (s.setTimer r).part = s.part := rfl
@[simp] theorem State.setTimer_timer : (s.setTimer r).timer = r := rfl
@[simp] theorem State.setTimer_ctl : (s.setTimer r).ctl = s.ctl := rfl
@[simp] theorem State.setTimer_tol : (s.setTimer r).tol = s.tol := rfl
@[simp] theorem State.setTimer_port : (s.setTimer r).port = s.port := rfl
@[simp] theorem State.setTimer_panels : (s.setTimer r).panels = s.panels := rfl
@[simp] theorem State.setTimer_profiles : (s.setTimer r).profiles = s.profiles := rfl
@[simp] theorem State.setTimer_lanes : (s.setTimer r).lanes = s.lanes := rfl
@[simp] theorem State.setTimer_gates : (s.setTimer r).gates = s.gates := rfl
@[simp] theorem State.setTimer_pins : (s.setTimer r).pins = s.pins := rfl
@[simp] theorem State.setTimer_freeCount : (s.setTimer r).freeCount = s.freeCount := rfl
@[simp] theorem State.setTimer_pending : (s.setTimer r).pending = s.pending := rfl
@[simp] theorem State.setTimer_panel (q : PanelId) : (s.setTimer r).panel q = s.panel q := rfl
@[simp] theorem State.setTimer_lane (q : LaneId) : (s.setTimer r).lane q = s.lane q := rfl
@[simp] theorem State.setTimer_gate (q : GateId) : (s.setTimer r).gate q = s.gate q := rfl
@[simp] theorem State.setTimer_profile (q : ProfileId) : (s.setTimer r).profile q = s.profile q := rfl

end

section
variable (s : State) (r : PartState)

@[simp] theorem State.setPart_part : (s.setPart r).part = r := rfl
@[simp] theorem State.setPart_timer : (s.setPart r).timer = s.timer := rfl
@[simp] theorem State.setPart_ctl : (s.setPart r).ctl = s.ctl := rfl
@[simp] theorem State.setPart_tol : (s.setPart r).tol = s.tol := rfl
@[simp] theorem State.setPart_port : (s.setPart r).port = s.port := rfl
@[simp] theorem State.setPart_panels : (s.setPart r).panels = s.panels := rfl
@[simp] theorem State.setPart_profiles : (s.setPart r).profiles = s.profiles := rfl
@[simp] theorem State.setPart_lanes : (s.setPart r).lanes = s.lanes := rfl
@[simp] theorem State.setPart_gates : (s.setPart r).gates = s.gates := rfl
@[simp] theorem State.setPart_pins : (s.setPart r).pins = s.pins := rfl
@[simp] theorem State.setPart_freeCount : (s.setPart r).freeCount = s.freeCount := rfl
@[simp] theorem State.setPart_pending : (s.setPart r).pending = s.pending := rfl
@[simp] theorem State.setPart_panel (q : PanelId) : (s.setPart r).panel q = s.panel q := rfl
@[simp] theorem State.setPart_lane (q : LaneId) : (s.setPart r).lane q = s.lane q := rfl
@[simp] theorem State.setPart_gate (q : GateId) : (s.setPart r).gate q = s.gate q := rfl
@[simp] theorem State.setPart_profile (q : ProfileId) : (s.setPart r).profile q = s.profile q := rfl

end

section
variable (s : State) (r : Pins)

@[simp] theorem State.setPins_part : (s.setPins r).part = s.part := rfl
@[simp] theorem State.setPins_timer : (s.setPins r).timer = s.timer := rfl
@[simp] theorem State.setPins_ctl : (s.setPins r).ctl = s.ctl := rfl
@[simp] theorem State.setPins_tol : (s.setPins r).tol = s.tol := rfl
@[simp] theorem State.setPins_port : (s.setPins r).port = s.port := rfl
@[simp] theorem State.setPins_panels : (s.setPins r).panels = s.panels := rfl
@[simp] theorem State.setPins_profiles : (s.setPins r).profiles = s.profiles := rfl
@[simp] theorem State.setPins_lanes : (s.setPins r).lanes = s.lanes := rfl
@[simp] theorem State.setPins_gates : (s.setPins r).gates = s.gates := rfl
@[simp] theorem State.setPins_pins : (s.setPins r).pins = r := rfl
@[simp] theorem State.setPins_freeCount : (s.setPins r).freeCount = s.freeCount := rfl
@[simp] theorem State.setPins_pending : (s.setPins r).pending = s.pending := rfl
@[simp] theorem State.setPins_panel (q : PanelId) : (s.setPins r).panel q = s.panel q := rfl
@[simp] theorem State.setPins_lane (q : LaneId) : (s.setPins r).lane q = s.lane q := rfl
@[simp] theorem State.setPins_gate (q : GateId) : (s.setPins r).gate q = s.gate q := rfl
@[simp] theorem State.setPins_profile (q : ProfileId) : (s.setPins r).profile q = s.profile q := rfl

end

section
variable (s : State) (k : Nat)

@[simp] theorem State.useFree_part : (s.useFree k).part = s.part := rfl
@[simp] theorem State.useFree_timer : (s.useFree k).timer = s.timer := rfl
@[simp] theorem State.useFree_ctl : (s.useFree k).ctl = s.ctl := rfl
@[simp] theorem State.useFree_tol : (s.useFree k).tol = s.tol := rfl
@[simp] theorem State.useFree_port : (s.useFree k).port = s.port := rfl
@[simp] theorem State.useFree_panels : (s.useFree k).panels = s.panels := rfl
@[simp] theorem State.useFree_profiles : (s.useFree k).profiles = s.profiles := rfl
@[simp] theorem State.useFree_lanes : (s.useFree k).lanes = s.lanes := rfl
@[simp] theorem State.useFree_gates : (s.useFree k).gates = s.gates := rfl
@[simp] theorem State.useFree_pins : (s.useFree k).pins = s.pins := rfl
@[simp] theorem State.useFree_freeCount : (s.useFree k).freeCount = s.freeCount + k := rfl
@[simp] theorem State.useFree_pending : (s.useFree k).pending = s.pending := rfl
@[simp] theorem State.useFree_panel (q : PanelId) : (s.useFree k).panel q = s.panel q := rfl
@[simp] theorem State.useFree_lane (q : LaneId) : (s.useFree k).lane q = s.lane q := rfl
@[simp] theorem State.useFree_gate (q : GateId) : (s.useFree k).gate q = s.gate q := rfl
@[simp] theorem State.useFree_profile (q : ProfileId) : (s.useFree k).profile q = s.profile q := rfl

end

section
variable (s : State) (p : PanelId) (f : Panel → Panel)

@[simp] theorem State.modPanel_part : (s.modPanel p f).part = s.part := rfl
@[simp] theorem State.modPanel_timer : (s.modPanel p f).timer = s.timer := rfl
@[simp] theorem State.modPanel_ctl : (s.modPanel p f).ctl = s.ctl := rfl
@[simp] theorem State.modPanel_tol : (s.modPanel p f).tol = s.tol := rfl
@[simp] theorem State.modPanel_port : (s.modPanel p f).port = s.port := rfl
@[simp] theorem State.modPanel_panels : (s.modPanel p f).panels = s.panels.set p (f (s.panel p)) := rfl
@[simp] theorem State.modPanel_profiles : (s.modPanel p f).profiles = s.profiles := rfl
@[simp] theorem State.modPanel_lanes : (s.modPanel p f).lanes = s.lanes := rfl
@[simp] theorem State.modPanel_gates : (s.modPanel p f).gates = s.gates := rfl
@[simp] theorem State.modPanel_pins : (s.modPanel p f).pins = s.pins := rfl
@[simp] theorem State.modPanel_freeCount : (s.modPanel p f).freeCount = s.freeCount := rfl
@[simp] theorem State.modPanel_pending : (s.modPanel p f).pending = s.pending := rfl
@[simp] theorem State.modPanel_lane (q : LaneId) : (s.modPanel p f).lane q = s.lane q := rfl
@[simp] theorem State.modPanel_gate (q : GateId) : (s.modPanel p f).gate q = s.gate q := rfl
@[simp] theorem State.modPanel_profile (q : ProfileId) : (s.modPanel p f).profile q = s.profile q := rfl

end

section
variable (s : State) (l : LaneId) (f : Lane → Lane)

@[simp] theorem State.modLane_part : (s.modLane l f).part = s.part := rfl
@[simp] theorem State.modLane_timer : (s.modLane l f).timer = s.timer := rfl
@[simp] theorem State.modLane_ctl : (s.modLane l f).ctl = s.ctl := rfl
@[simp] theorem State.modLane_tol : (s.modLane l f).tol = s.tol := rfl
@[simp] theorem State.modLane_port : (s.modLane l f).port = s.port := rfl
@[simp] theorem State.modLane_panels : (s.modLane l f).panels = s.panels := rfl
@[simp] theorem State.modLane_profiles : (s.modLane l f).profiles = s.profiles := rfl
@[simp] theorem State.modLane_lanes : (s.modLane l f).lanes = s.lanes.set l (f (s.lane l)) := rfl
@[simp] theorem State.modLane_gates : (s.modLane l f).gates = s.gates := rfl
@[simp] theorem State.modLane_pins : (s.modLane l f).pins = s.pins := rfl
@[simp] theorem State.modLane_freeCount : (s.modLane l f).freeCount = s.freeCount := rfl
@[simp] theorem State.modLane_pending : (s.modLane l f).pending = s.pending := rfl
@[simp] theorem State.modLane_panel (q : PanelId) : (s.modLane l f).panel q = s.panel q := rfl
@[simp] theorem State.modLane_gate (q : GateId) : (s.modLane l f).gate q = s.gate q := rfl
@[simp] theorem State.modLane_profile (q : ProfileId) : (s.modLane l f).profile q = s.profile q := rfl

end

section
variable (s : State) (res : Result)

@[simp] theorem State.complete_part : (s.complete res).part = s.part := rfl
@[simp] theorem State.complete_timer : (s.complete res).timer = s.timer := rfl
@[simp] theorem State.complete_ctl : (s.complete res).ctl = { s.ctl with resState := .done, result := res, done := true, op := .none, busErr := false } := rfl
@[simp] theorem State.complete_tol : (s.complete res).tol = s.tol := rfl
@[simp] theorem State.complete_port : (s.complete res).port = s.port := rfl
@[simp] theorem State.complete_panels : (s.complete res).panels = s.panels := rfl
@[simp] theorem State.complete_profiles : (s.complete res).profiles = s.profiles := rfl
@[simp] theorem State.complete_lanes : (s.complete res).lanes = s.lanes := rfl
@[simp] theorem State.complete_gates : (s.complete res).gates = s.gates := rfl
@[simp] theorem State.complete_pins : (s.complete res).pins = s.pins := rfl
@[simp] theorem State.complete_freeCount : (s.complete res).freeCount = s.freeCount := rfl
@[simp] theorem State.complete_pending : (s.complete res).pending = s.pending := rfl
@[simp] theorem State.complete_panel (q : PanelId) : (s.complete res).panel q = s.panel q := rfl
@[simp] theorem State.complete_lane (q : LaneId) : (s.complete res).lane q = s.lane q := rfl
@[simp] theorem State.complete_gate (q : GateId) : (s.complete res).gate q = s.gate q := rfl
@[simp] theorem State.complete_profile (q : ProfileId) : (s.complete res).profile q = s.profile q := rfl

end

section
variable (s : State) (op : ReqOp)

@[simp] theorem State.setOp_part : (s.setOp op).part = s.part := rfl
@[simp] theorem State.setOp_timer : (s.setOp op).timer = s.timer := rfl
@[simp] theorem State.setOp_ctl : (s.setOp op).ctl = { s.ctl with op := op } := rfl
@[simp] theorem State.setOp_tol : (s.setOp op).tol = s.tol := rfl
@[simp] theorem State.setOp_port : (s.setOp op).port = s.port := rfl
@[simp] theorem State.setOp_panels : (s.setOp op).panels = s.panels := rfl
@[simp] theorem State.setOp_profiles : (s.setOp op).profiles = s.profiles := rfl
@[simp] theorem State.setOp_lanes : (s.setOp op).lanes = s.lanes := rfl
@[simp] theorem State.setOp_gates : (s.setOp op).gates = s.gates := rfl
@[simp] theorem State.setOp_pins : (s.setOp op).pins = s.pins := rfl
@[simp] theorem State.setOp_freeCount : (s.setOp op).freeCount = s.freeCount := rfl
@[simp] theorem State.setOp_pending : (s.setOp op).pending = s.pending := rfl
@[simp] theorem State.setOp_panel (q : PanelId) : (s.setOp op).panel q = s.panel q := rfl
@[simp] theorem State.setOp_lane (q : LaneId) : (s.setOp op).lane q = s.lane q := rfl
@[simp] theorem State.setOp_gate (q : GateId) : (s.setOp op).gate q = s.gate q := rfl
@[simp] theorem State.setOp_profile (q : ProfileId) : (s.setOp op).profile q = s.profile q := rfl

end

section
variable (s : State) (p : PanelId)

@[simp] theorem State.setFaultBit_part : (s.setFaultBit p).part = s.part := rfl
@[simp] theorem State.setFaultBit_timer : (s.setFaultBit p).timer = s.timer := rfl
@[simp] theorem State.setFaultBit_ctl : (s.setFaultBit p).ctl = { s.ctl with fault := s.ctl.fault ||| panelBit p } := rfl
@[simp] theorem State.setFaultBit_tol : (s.setFaultBit p).tol = s.tol := rfl
@[simp] theorem State.setFaultBit_port : (s.setFaultBit p).port = s.port := rfl
@[simp] theorem State.setFaultBit_panels : (s.setFaultBit p).panels = s.panels := rfl
@[simp] theorem State.setFaultBit_profiles : (s.setFaultBit p).profiles = s.profiles := rfl
@[simp] theorem State.setFaultBit_lanes : (s.setFaultBit p).lanes = s.lanes := rfl
@[simp] theorem State.setFaultBit_gates : (s.setFaultBit p).gates = s.gates := rfl
@[simp] theorem State.setFaultBit_pins : (s.setFaultBit p).pins = s.pins := rfl
@[simp] theorem State.setFaultBit_freeCount : (s.setFaultBit p).freeCount = s.freeCount := rfl
@[simp] theorem State.setFaultBit_pending : (s.setFaultBit p).pending = s.pending := rfl
@[simp] theorem State.setFaultBit_panel (q : PanelId) : (s.setFaultBit p).panel q = s.panel q := rfl
@[simp] theorem State.setFaultBit_lane (q : LaneId) : (s.setFaultBit p).lane q = s.lane q := rfl
@[simp] theorem State.setFaultBit_gate (q : GateId) : (s.setFaultBit p).gate q = s.gate q := rfl
@[simp] theorem State.setFaultBit_profile (q : ProfileId) : (s.setFaultBit p).profile q = s.profile q := rfl

end

section
variable (s : State) (p : PanelId)

@[simp] theorem State.setNotifyBit_part : (s.setNotifyBit p).part = s.part := rfl
@[simp] theorem State.setNotifyBit_timer : (s.setNotifyBit p).timer = s.timer := rfl
@[simp] theorem State.setNotifyBit_ctl : (s.setNotifyBit p).ctl = { s.ctl with notify := s.ctl.notify ||| panelBit p } := rfl
@[simp] theorem State.setNotifyBit_tol : (s.setNotifyBit p).tol = s.tol := rfl
@[simp] theorem State.setNotifyBit_port : (s.setNotifyBit p).port = s.port := rfl
@[simp] theorem State.setNotifyBit_panels : (s.setNotifyBit p).panels = s.panels := rfl
@[simp] theorem State.setNotifyBit_profiles : (s.setNotifyBit p).profiles = s.profiles := rfl
@[simp] theorem State.setNotifyBit_lanes : (s.setNotifyBit p).lanes = s.lanes := rfl
@[simp] theorem State.setNotifyBit_gates : (s.setNotifyBit p).gates = s.gates := rfl
@[simp] theorem State.setNotifyBit_pins : (s.setNotifyBit p).pins = s.pins := rfl
@[simp] theorem State.setNotifyBit_freeCount : (s.setNotifyBit p).freeCount = s.freeCount := rfl
@[simp] theorem State.setNotifyBit_pending : (s.setNotifyBit p).pending = s.pending := rfl
@[simp] theorem State.setNotifyBit_panel (q : PanelId) : (s.setNotifyBit p).panel q = s.panel q := rfl
@[simp] theorem State.setNotifyBit_lane (q : LaneId) : (s.setNotifyBit p).lane q = s.lane q := rfl
@[simp] theorem State.setNotifyBit_gate (q : GateId) : (s.setNotifyBit p).gate q = s.gate q := rfl
@[simp] theorem State.setNotifyBit_profile (q : ProfileId) : (s.setNotifyBit p).profile q = s.profile q := rfl

end

section
variable (s : State) (w : WriteTxn)

@[simp] theorem State.takeWrite_part : (s.takeWrite w).part = s.part := rfl
@[simp] theorem State.takeWrite_timer : (s.takeWrite w).timer = s.timer := rfl
@[simp] theorem State.takeWrite_ctl : (s.takeWrite w).ctl = s.ctl := rfl
@[simp] theorem State.takeWrite_tol : (s.takeWrite w).tol = s.tol := rfl
@[simp] theorem State.takeWrite_port : (s.takeWrite w).port = { s.port with writeQ := s.port.writeQ ++ [w] } := rfl
@[simp] theorem State.takeWrite_panels : (s.takeWrite w).panels = s.panels := rfl
@[simp] theorem State.takeWrite_profiles : (s.takeWrite w).profiles = s.profiles := rfl
@[simp] theorem State.takeWrite_lanes : (s.takeWrite w).lanes = s.lanes := rfl
@[simp] theorem State.takeWrite_gates : (s.takeWrite w).gates = s.gates := rfl
@[simp] theorem State.takeWrite_pins : (s.takeWrite w).pins = s.pins := rfl
@[simp] theorem State.takeWrite_freeCount : (s.takeWrite w).freeCount = s.freeCount := rfl
@[simp] theorem State.takeWrite_pending : (s.takeWrite w).pending = s.pending := rfl
@[simp] theorem State.takeWrite_panel (q : PanelId) : (s.takeWrite w).panel q = s.panel q := rfl
@[simp] theorem State.takeWrite_lane (q : LaneId) : (s.takeWrite w).lane q = s.lane q := rfl
@[simp] theorem State.takeWrite_gate (q : GateId) : (s.takeWrite w).gate q = s.gate q := rfl
@[simp] theorem State.takeWrite_profile (q : ProfileId) : (s.takeWrite w).profile q = s.profile q := rfl

end

section
variable (s : State) (x : ReadTxn)

@[simp] theorem State.takeChainRead_part : (s.takeChainRead x).part = s.part := rfl
@[simp] theorem State.takeChainRead_timer : (s.takeChainRead x).timer = s.timer := rfl
@[simp] theorem State.takeChainRead_ctl : (s.takeChainRead x).ctl = s.ctl := rfl
@[simp] theorem State.takeChainRead_tol : (s.takeChainRead x).tol = s.tol := rfl
@[simp] theorem State.takeChainRead_port : (s.takeChainRead x).port = { s.port with chainQ := s.port.chainQ ++ [x] } := rfl
@[simp] theorem State.takeChainRead_panels : (s.takeChainRead x).panels = s.panels := rfl
@[simp] theorem State.takeChainRead_profiles : (s.takeChainRead x).profiles = s.profiles := rfl
@[simp] theorem State.takeChainRead_lanes : (s.takeChainRead x).lanes = s.lanes := rfl
@[simp] theorem State.takeChainRead_gates : (s.takeChainRead x).gates = s.gates := rfl
@[simp] theorem State.takeChainRead_pins : (s.takeChainRead x).pins = s.pins := rfl
@[simp] theorem State.takeChainRead_freeCount : (s.takeChainRead x).freeCount = s.freeCount := rfl
@[simp] theorem State.takeChainRead_pending : (s.takeChainRead x).pending = s.pending := rfl
@[simp] theorem State.takeChainRead_panel (q : PanelId) : (s.takeChainRead x).panel q = s.panel q := rfl
@[simp] theorem State.takeChainRead_lane (q : LaneId) : (s.takeChainRead x).lane q = s.lane q := rfl
@[simp] theorem State.takeChainRead_gate (q : GateId) : (s.takeChainRead x).gate q = s.gate q := rfl
@[simp] theorem State.takeChainRead_profile (q : ProfileId) : (s.takeChainRead x).profile q = s.profile q := rfl

end

/-! ### A home after a write of it or of another -/

@[simp] theorem State.setPanel_panel_same (s : State) (p : PanelId) (r : Panel) : (s.setPanel p r).panel p = r := by
  simp [State.setPanel, State.panel]

theorem State.setPanel_panel_ne (s : State) {p q : PanelId} (h : q ≠ p) (r : Panel) : (s.setPanel p r).panel q = s.panel q := by
  have h' : p.val ≠ q.val := fun e => h (Fin.ext e.symm)
  simp [State.setPanel, State.panel, Vector.getElem_set_ne, h']

/-- Reading any index after a write. -/
theorem State.setPanel_panel (s : State) (p q : PanelId) (r : Panel) :
    (s.setPanel p r).panel q = if q = p then r else s.panel q := by
  by_cases h : q = p
  · subst h; simp
  · simp [h, State.setPanel_panel_ne]

@[simp] theorem State.setLane_lane_same (s : State) (l : LaneId) (r : Lane) : (s.setLane l r).lane l = r := by
  simp [State.setLane, State.lane]

theorem State.setLane_lane_ne (s : State) {l q : LaneId} (h : q ≠ l) (r : Lane) : (s.setLane l r).lane q = s.lane q := by
  have h' : l.val ≠ q.val := fun e => h (Fin.ext e.symm)
  simp [State.setLane, State.lane, Vector.getElem_set_ne, h']

/-- Reading any index after a write. -/
theorem State.setLane_lane (s : State) (l q : LaneId) (r : Lane) :
    (s.setLane l r).lane q = if q = l then r else s.lane q := by
  by_cases h : q = l
  · subst h; simp
  · simp [h, State.setLane_lane_ne]

@[simp] theorem State.setGate_gate_same (s : State) (g : GateId) (r : Gate) : (s.setGate g r).gate g = r := by
  simp [State.setGate, State.gate]

theorem State.setGate_gate_ne (s : State) {g q : GateId} (h : q ≠ g) (r : Gate) : (s.setGate g r).gate q = s.gate q := by
  have h' : g.val ≠ q.val := fun e => h (Fin.ext e.symm)
  simp [State.setGate, State.gate, Vector.getElem_set_ne, h']

/-- Reading any index after a write. -/
theorem State.setGate_gate (s : State) (g q : GateId) (r : Gate) :
    (s.setGate g r).gate q = if q = g then r else s.gate q := by
  by_cases h : q = g
  · subst h; simp
  · simp [h, State.setGate_gate_ne]

@[simp] theorem State.setProfile_profile_same (s : State) (i : ProfileId) (r : Profile) : (s.setProfile i r).profile i = r := by
  simp [State.setProfile, State.profile]

theorem State.setProfile_profile_ne (s : State) {i q : ProfileId} (h : q ≠ i) (r : Profile) : (s.setProfile i r).profile q = s.profile q := by
  have h' : i.val ≠ q.val := fun e => h (Fin.ext e.symm)
  simp [State.setProfile, State.profile, Vector.getElem_set_ne, h']

/-- Reading any index after a write. -/
theorem State.setProfile_profile (s : State) (i q : ProfileId) (r : Profile) :
    (s.setProfile i r).profile q = if q = i then r else s.profile q := by
  by_cases h : q = i
  · subst h; simp
  · simp [h, State.setProfile_profile_ne]

@[simp] theorem State.modPanel_panel_same (s : State) (p : PanelId) (f : Panel → Panel) :
    (s.modPanel p f).panel p = f (s.panel p) := State.setPanel_panel_same s p _

theorem State.modPanel_panel_ne (s : State) {p q : PanelId} (h : q ≠ p) (f : Panel → Panel) :
    (s.modPanel p f).panel q = s.panel q := State.setPanel_panel_ne s h _

theorem State.modPanel_panel (s : State) (p q : PanelId) (f : Panel → Panel) :
    (s.modPanel p f).panel q = if q = p then f (s.panel p) else s.panel q := State.setPanel_panel s p q _

@[simp] theorem State.modLane_lane_same (s : State) (l : LaneId) (f : Lane → Lane) :
    (s.modLane l f).lane l = f (s.lane l) := State.setLane_lane_same s l _

theorem State.modLane_lane_ne (s : State) {l q : LaneId} (h : q ≠ l) (f : Lane → Lane) :
    (s.modLane l f).lane q = s.lane q := State.setLane_lane_ne s h _

theorem State.modLane_lane (s : State) (l q : LaneId) (f : Lane → Lane) :
    (s.modLane l f).lane q = if q = l then f (s.lane l) else s.lane q := State.setLane_lane s l q _

/-- Storing what a home already holds changes nothing. -/
theorem State.setPanel_self (s : State) (p : PanelId) : s.setPanel p (s.panel p) = s := by
  apply State.eq_of_fields <;> simp [State.panel]

/-- Storing what a home already holds changes nothing. -/
theorem State.setLane_self (s : State) (l : LaneId) : s.setLane l (s.lane l) = s := by
  apply State.eq_of_fields <;> simp [State.lane]

/-! ### A panel's transaction in flight after an update of neither panels nor lanes -/

section
variable (s : State) (q : PanelId)
@[simp] theorem State.setPort_inFlight (r : Port) : (s.setPort r).inFlight q = s.inFlight q := rfl
@[simp] theorem State.setCtl_inFlight (r : Control) : (s.setCtl r).inFlight q = s.inFlight q := rfl
@[simp] theorem State.setTol_inFlight (r : Tolerance) : (s.setTol r).inFlight q = s.inFlight q := rfl
@[simp] theorem State.setTimer_inFlight (r : Timer) : (s.setTimer r).inFlight q = s.inFlight q := rfl
@[simp] theorem State.setPart_inFlight (r : PartState) : (s.setPart r).inFlight q = s.inFlight q := rfl
@[simp] theorem State.setPins_inFlight (r : Pins) : (s.setPins r).inFlight q = s.inFlight q := rfl
@[simp] theorem State.setGate_inFlight (g : GateId) (r : Gate) : (s.setGate g r).inFlight q = s.inFlight q := rfl
@[simp] theorem State.complete_inFlight (res : Result) : (s.complete res).inFlight q = s.inFlight q := rfl
@[simp] theorem State.setOp_inFlight (op : ReqOp) : (s.setOp op).inFlight q = s.inFlight q := rfl
@[simp] theorem State.takeWrite_inFlight (w : WriteTxn) : (s.takeWrite w).inFlight q = s.inFlight q := rfl
@[simp] theorem State.takeChainRead_inFlight (x : ReadTxn) : (s.takeChainRead x).inFlight q = s.inFlight q := rfl

end

/-! ### Sets of panels, lists of every index -/

/-- Every slot is in the list of slots. -/
@[simp] theorem mem_allPanels (p : PanelId) : p ∈ allPanels := by
  revert p; decide

/-- Every lane is in the list of lanes. -/
@[simp] theorem mem_allLanes (l : LaneId) : l ∈ allLanes := by
  revert l; decide

/-- Every gate is in the list of gates. -/
@[simp] theorem mem_allGates (g : GateId) : g ∈ allGates := by
  revert g; decide

/-- No slot is listed twice. -/
theorem allPanels_nodup : allPanels.Nodup := by decide

/-- No lane is listed twice. -/
theorem allLanes_nodup : allLanes.Nodup := by decide

/-- No gate is listed twice. -/
theorem allGates_nodup : allGates.Nodup := by decide

/-- A set that gains a panel holds it and what it held. -/
theorem hasPanel_or_panelBit (m : Half) (p q : PanelId) :
    hasPanel (m ||| panelBit p) q = (hasPanel m q || q == p) := by
  have key : (panelBit p).getLsbD q.val = (q == p) := by revert p q; decide
  rw [hasPanel, BitVec.getLsbD_or, key, hasPanel]

/-- A set that loses the members of another. -/
theorem hasPanel_and_not (m k : Half) (q : PanelId) : hasPanel (m &&& ~~~k) q = (hasPanel m q && !hasPanel k q) := by
  simp [hasPanel]

end Sys2Proof.Machine
end

