-- ==== Sys2Proof/Laws/Frames.lean ====
section
/-! SUPPORT. What each shared operation leaves as it is: one lemma per operation. -/
namespace Sys2Proof.Machine

/-! ### Final status writes -/

/-- A status write goes to the port. -/
@[simp] theorem State.writeStatus_frame (s : State) (p : PanelId) (addr : Word) (notify : Bool) (f : Final) (o : Bool) :
    (s.writeStatus p addr notify f o).part = s.part ∧ (s.writeStatus p addr notify f o).timer = s.timer ∧
    (s.writeStatus p addr notify f o).ctl = s.ctl ∧ (s.writeStatus p addr notify f o).tol = s.tol ∧
    (s.writeStatus p addr notify f o).panels = s.panels ∧ (s.writeStatus p addr notify f o).profiles = s.profiles ∧
    (s.writeStatus p addr notify f o).lanes = s.lanes ∧ (s.writeStatus p addr notify f o).gates = s.gates ∧
    (s.writeStatus p addr notify f o).pins = s.pins ∧ (s.writeStatus p addr notify f o).freeCount = s.freeCount ∧
    (s.writeStatus p addr notify f o).pending = s.pending ∧
    (∀ i : PanelId, (s.writeStatus p addr notify f o).panel i = s.panel i) ∧
    (∀ i : LaneId, (s.writeStatus p addr notify f o).lane i = s.lane i) ∧
    (∀ i : GateId, (s.writeStatus p addr notify f o).gate i = s.gate i) ∧
    (∀ i : ProfileId, (s.writeStatus p addr notify f o).profile i = s.profile i) := by
  simp [State.writeStatus]

/-- So do the writes of several ended tickets. -/
@[simp] theorem State.writeEnds_frame (s : State) (p : PanelId) (o : Bool) (ends : List (Entry × Final)) :
    (s.writeEnds p o ends).part = s.part ∧ (s.writeEnds p o ends).timer = s.timer ∧
    (s.writeEnds p o ends).ctl = s.ctl ∧ (s.writeEnds p o ends).tol = s.tol ∧
    (s.writeEnds p o ends).panels = s.panels ∧ (s.writeEnds p o ends).profiles = s.profiles ∧
    (s.writeEnds p o ends).lanes = s.lanes ∧ (s.writeEnds p o ends).gates = s.gates ∧
    (s.writeEnds p o ends).pins = s.pins ∧ (s.writeEnds p o ends).freeCount = s.freeCount ∧
    (s.writeEnds p o ends).pending = s.pending ∧ (∀ i : PanelId, (s.writeEnds p o ends).panel i = s.panel i) ∧
    (∀ i : LaneId, (s.writeEnds p o ends).lane i = s.lane i) ∧
    (∀ i : GateId, (s.writeEnds p o ends).gate i = s.gate i) ∧
    (∀ i : ProfileId, (s.writeEnds p o ends).profile i = s.profile i) := by
  induction ends generalizing s with
  | nil => simp [State.writeEnds]
  | cons e rest ih => simpa [State.writeEnds] using ih (s.writeStatus p e.1.ticket.addr e.1.ticket.notify e.2 o)

/-- Ending tickets changes a panel record and the port. -/
@[simp] theorem State.endTickets_frame (s : State) (p : PanelId) (sel : Nat → Entry → Option Final) (o : Bool) :
    (s.endTickets p sel o).part = s.part ∧ (s.endTickets p sel o).timer = s.timer ∧
    (s.endTickets p sel o).ctl = s.ctl ∧ (s.endTickets p sel o).tol = s.tol ∧
    (s.endTickets p sel o).profiles = s.profiles ∧ (s.endTickets p sel o).lanes = s.lanes ∧
    (s.endTickets p sel o).gates = s.gates ∧ (s.endTickets p sel o).pins = s.pins ∧
    (s.endTickets p sel o).freeCount = s.freeCount ∧ (s.endTickets p sel o).pending = s.pending ∧
    (∀ i : LaneId, (s.endTickets p sel o).lane i = s.lane i) ∧
    (∀ i : GateId, (s.endTickets p sel o).gate i = s.gate i) ∧
    (∀ i : ProfileId, (s.endTickets p sel o).profile i = s.profile i) := by
  simp [State.endTickets]

/-- Ending the head does no more. -/
@[simp] theorem State.endHead_frame (s : State) (p : PanelId) (f : Final) (o : Bool) :
    (s.endHead p f o).part = s.part ∧ (s.endHead p f o).timer = s.timer ∧ (s.endHead p f o).ctl = s.ctl ∧
    (s.endHead p f o).tol = s.tol ∧ (s.endHead p f o).profiles = s.profiles ∧ (s.endHead p f o).lanes = s.lanes ∧
    (s.endHead p f o).gates = s.gates ∧ (s.endHead p f o).pins = s.pins ∧ (s.endHead p f o).freeCount = s.freeCount ∧
    (s.endHead p f o).pending = s.pending ∧ (∀ i : LaneId, (s.endHead p f o).lane i = s.lane i) ∧
    (∀ i : GateId, (s.endHead p f o).gate i = s.gate i) ∧ (∀ i : ProfileId, (s.endHead p f o).profile i = s.profile i) := by
  simp [State.endHead]

/-! ### Gates and faults -/

/-- A fold of steps keeps what each of its steps keeps. -/
theorem foldl_keeps {α β : Type} (view : State → β) (f : State → α → State) (h : ∀ s a, view (f s a) = view s)
    (xs : List α) (s : State) : view (xs.foldl f s) = view s := by
  induction xs generalizing s with
  | nil => rfl
  | cons a rest ih => rw [List.foldl_cons, ih, h]

/-- A fold of steps that keep everything but panel records, gate entries and the port keeps all the rest. -/
theorem foldl_frame {α : Type} (f : State → α → State)
    (h : ∀ s a, (f s a).part = s.part ∧ (f s a).timer = s.timer ∧ (f s a).ctl = s.ctl ∧ (f s a).tol = s.tol ∧
      (f s a).profiles = s.profiles ∧ (f s a).lanes = s.lanes ∧ (f s a).pins = s.pins ∧
      (f s a).freeCount = s.freeCount ∧ (f s a).pending = s.pending) (xs : List α) (s : State) :
    (xs.foldl f s).part = s.part ∧ (xs.foldl f s).timer = s.timer ∧ (xs.foldl f s).ctl = s.ctl ∧
      (xs.foldl f s).tol = s.tol ∧ (xs.foldl f s).profiles = s.profiles ∧ (xs.foldl f s).lanes = s.lanes ∧
      (xs.foldl f s).pins = s.pins ∧ (xs.foldl f s).freeCount = s.freeCount ∧ (xs.foldl f s).pending = s.pending :=
  ⟨foldl_keeps (·.part) f (fun s a => (h s a).1) xs s, foldl_keeps (·.timer) f (fun s a => (h s a).2.1) xs s,
    foldl_keeps (·.ctl) f (fun s a => (h s a).2.2.1) xs s, foldl_keeps (·.tol) f (fun s a => (h s a).2.2.2.1) xs s,
    foldl_keeps (·.profiles) f (fun s a => (h s a).2.2.2.2.1) xs s,
    foldl_keeps (·.lanes) f (fun s a => (h s a).2.2.2.2.2.1) xs s,
    foldl_keeps (·.pins) f (fun s a => (h s a).2.2.2.2.2.2.1) xs s,
    foldl_keeps (·.freeCount) f (fun s a => (h s a).2.2.2.2.2.2.2.1) xs s,
    foldl_keeps (·.pending) f (fun s a => (h s a).2.2.2.2.2.2.2.2) xs s⟩

/-- A break ends tickets and frees its entry. -/
@[simp] theorem State.breakGate_frame (s : State) (g : GateId) (reason : Reason) (own : PanelId → Bool) :
    (s.breakGate g reason own).part = s.part ∧ (s.breakGate g reason own).timer = s.timer ∧
    (s.breakGate g reason own).ctl = s.ctl ∧ (s.breakGate g reason own).tol = s.tol ∧
    (s.breakGate g reason own).profiles = s.profiles ∧ (s.breakGate g reason own).lanes = s.lanes ∧
    (s.breakGate g reason own).pins = s.pins ∧ (s.breakGate g reason own).freeCount = s.freeCount ∧
    (s.breakGate g reason own).pending = s.pending ∧ (∀ i : LaneId, (s.breakGate g reason own).lane i = s.lane i) ∧
    (∀ i : ProfileId, (s.breakGate g reason own).profile i = s.profile i) := by
  have h := foldl_frame (fun (s : State) q =>
    (s.endHead q { state := .gateBroken, reason := reason, detail := 0 } (own q)).modPanel q
      fun r => { r with gateAt := none }) (by intros; simp) (s.gate g).list s
  simp [State.breakGate, State.lane, State.profile, h]

/-- So do the breaks of several entries. -/
@[simp] theorem State.breakGates_frame (s : State) (sel : Gate → Bool) (reason : Reason) (own : PanelId → Bool) :
    (s.breakGates sel reason own).part = s.part ∧ (s.breakGates sel reason own).timer = s.timer ∧
    (s.breakGates sel reason own).ctl = s.ctl ∧ (s.breakGates sel reason own).tol = s.tol ∧
    (s.breakGates sel reason own).profiles = s.profiles ∧ (s.breakGates sel reason own).lanes = s.lanes ∧
    (s.breakGates sel reason own).pins = s.pins ∧ (s.breakGates sel reason own).freeCount = s.freeCount ∧
    (s.breakGates sel reason own).pending = s.pending ∧
    (∀ i : LaneId, (s.breakGates sel reason own).lane i = s.lane i) ∧
    (∀ i : ProfileId, (s.breakGates sel reason own).profile i = s.profile i) := by
  have h := foldl_frame (fun (s : State) g => if sel (s.gate g) then s.breakGate g reason own else s)
    (by intro s g; split <;> simp) allGates s
  simp [State.breakGates, State.lane, State.profile, h]

/-- So does the loss of a member. -/
@[simp] theorem State.memberLost_frame (s : State) (p : PanelId) (own : PanelId → Bool) :
    (s.memberLost p own).part = s.part ∧ (s.memberLost p own).timer = s.timer ∧ (s.memberLost p own).ctl = s.ctl ∧
    (s.memberLost p own).tol = s.tol ∧ (s.memberLost p own).profiles = s.profiles ∧
    (s.memberLost p own).lanes = s.lanes ∧ (s.memberLost p own).pins = s.pins ∧
    (s.memberLost p own).freeCount = s.freeCount ∧ (s.memberLost p own).pending = s.pending ∧
    (∀ i : LaneId, (s.memberLost p own).lane i = s.lane i) ∧
    (∀ i : ProfileId, (s.memberLost p own).profile i = s.profile i) := by
  simp [State.memberLost]

/-- A withdrawal changes an entry and a panel record. -/
@[simp] theorem State.withdraw_frame (s : State) (p : PanelId) :
    (s.withdraw p).part = s.part ∧ (s.withdraw p).timer = s.timer ∧ (s.withdraw p).ctl = s.ctl ∧
    (s.withdraw p).tol = s.tol ∧ (s.withdraw p).port = s.port ∧ (s.withdraw p).profiles = s.profiles ∧
    (s.withdraw p).lanes = s.lanes ∧ (s.withdraw p).pins = s.pins ∧ (s.withdraw p).freeCount = s.freeCount ∧
    (s.withdraw p).pending = s.pending ∧ (∀ i : LaneId, (s.withdraw p).lane i = s.lane i) ∧
    (∀ i : ProfileId, (s.withdraw p).profile i = s.profile i) := by
  unfold State.withdraw
  split <;> simp

/-- The end of a halted panel's PARK changes the control port. -/
@[simp] theorem State.endParkBadState_frame (s : State) (p : PanelId) :
    (s.endParkBadState p).part = s.part ∧ (s.endParkBadState p).timer = s.timer ∧ (s.endParkBadState p).tol = s.tol ∧
    (s.endParkBadState p).port = s.port ∧ (s.endParkBadState p).panels = s.panels ∧
    (s.endParkBadState p).profiles = s.profiles ∧ (s.endParkBadState p).lanes = s.lanes ∧
    (s.endParkBadState p).gates = s.gates ∧ (s.endParkBadState p).pins = s.pins ∧
    (s.endParkBadState p).freeCount = s.freeCount ∧ (s.endParkBadState p).pending = s.pending ∧
    (∀ i : PanelId, (s.endParkBadState p).panel i = s.panel i) ∧
    (∀ i : LaneId, (s.endParkBadState p).lane i = s.lane i) ∧
    (∀ i : GateId, (s.endParkBadState p).gate i = s.gate i) ∧
    (∀ i : ProfileId, (s.endParkBadState p).profile i = s.profile i) := by
  unfold State.endParkBadState
  split <;> (try split) <;> simp

/-- A halting fault changes panel records, the control port, and breaks gates. -/
@[simp] theorem State.haltFault_frame (s : State) (p : PanelId) (code : FaultCode) :
    (s.haltFault p code).part = s.part ∧ (s.haltFault p code).timer = s.timer ∧ (s.haltFault p code).tol = s.tol ∧
    (s.haltFault p code).profiles = s.profiles ∧ (s.haltFault p code).lanes = s.lanes ∧
    (s.haltFault p code).pins = s.pins ∧ (s.haltFault p code).freeCount = s.freeCount ∧
    (s.haltFault p code).pending = s.pending ∧ (∀ i : LaneId, (s.haltFault p code).lane i = s.lane i) ∧
    (∀ i : ProfileId, (s.haltFault p code).profile i = s.profile i) := by
  unfold State.haltFault
  dsimp only
  split <;> simp

/-- ALIGN's close changes panel records. -/
@[simp] theorem State.alignClose_frame (s : State) (mask : Half) :
    (s.alignClose mask).part = s.part ∧ (s.alignClose mask).timer = s.timer ∧ (s.alignClose mask).ctl = s.ctl ∧
    (s.alignClose mask).tol = s.tol ∧ (s.alignClose mask).port = s.port ∧ (s.alignClose mask).profiles = s.profiles ∧
    (s.alignClose mask).lanes = s.lanes ∧ (s.alignClose mask).gates = s.gates ∧ (s.alignClose mask).pins = s.pins ∧
    (s.alignClose mask).freeCount = s.freeCount ∧ (s.alignClose mask).pending = s.pending ∧
    (∀ i : LaneId, (s.alignClose mask).lane i = s.lane i) ∧ (∀ i : GateId, (s.alignClose mask).gate i = s.gate i) ∧
    (∀ i : ProfileId, (s.alignClose mask).profile i = s.profile i) := by
  have h := foldl_frame (fun (s : State) q =>
    if hasPanel mask q then s.modPanel q fun r => { r with tear := r.tear.close } else s)
    (by intro s q; split <;> simp) allPanels s
  have hp := foldl_keeps (·.port) (fun (s : State) q =>
    if hasPanel mask q then s.modPanel q fun r => { r with tear := r.tear.close } else s)
    (by intro s q; split <;> simp) allPanels s
  have hg := foldl_keeps (·.gates) (fun (s : State) q =>
    if hasPanel mask q then s.modPanel q fun r => { r with tear := r.tear.close } else s)
    (by intro s q; split <;> simp) allPanels s
  simp [State.alignClose, State.lane, State.profile, State.gate, h, hp, hg]

/-- A release closes windows, ends tickets and frees its entry. -/
@[simp] theorem State.release_frame (s : State) (g : GateId) :
    (s.release g).part = s.part ∧ (s.release g).timer = s.timer ∧ (s.release g).ctl = s.ctl ∧
    (s.release g).tol = s.tol ∧ (s.release g).profiles = s.profiles ∧ (s.release g).lanes = s.lanes ∧
    (s.release g).pins = s.pins ∧ (s.release g).freeCount = s.freeCount ∧ (s.release g).pending = s.pending ∧
    (∀ i : LaneId, (s.release g).lane i = s.lane i) ∧ (∀ i : ProfileId, (s.release g).profile i = s.profile i) := by
  have h := fun s' : State => foldl_frame (fun (s : State) q =>
    (s.endHead q { state := .done, reason := .none, detail := 0 } false).modPanel q
      fun r => { r with gateAt := none }) (by intros; simp) (s.gate g).list s'
  unfold State.release
  dsimp only
  split <;> simp [State.lane, State.profile, h]

/-- An arrival changes panel records, gate entries and the port. -/
@[simp] theorem State.arrive_frame (s : State) (p : PanelId) (g : GateId) (mask : Half) (timeout : Nat) (align : Bool) :
    (s.arrive p g mask timeout align).part = s.part ∧ (s.arrive p g mask timeout align).timer = s.timer ∧
    (s.arrive p g mask timeout align).ctl = s.ctl ∧ (s.arrive p g mask timeout align).tol = s.tol ∧
    (s.arrive p g mask timeout align).profiles = s.profiles ∧ (s.arrive p g mask timeout align).lanes = s.lanes ∧
    (s.arrive p g mask timeout align).pins = s.pins ∧ (s.arrive p g mask timeout align).freeCount = s.freeCount ∧
    (s.arrive p g mask timeout align).pending = s.pending ∧
    (∀ i : LaneId, (s.arrive p g mask timeout align).lane i = s.lane i) ∧
    (∀ i : ProfileId, (s.arrive p g mask timeout align).profile i = s.profile i) := by
  unfold State.arrive
  dsimp only
  repeat' split
  all_goals simp

/-- So does an action on a head. -/
@[simp] theorem State.doHead_frame (s : State) (p : PanelId) (a : HeadAct) :
    (s.doHead p a).part = s.part ∧ (s.doHead p a).timer = s.timer ∧ (s.doHead p a).ctl = s.ctl ∧
    (s.doHead p a).tol = s.tol ∧ (s.doHead p a).profiles = s.profiles ∧ (s.doHead p a).lanes = s.lanes ∧
    (s.doHead p a).pins = s.pins ∧ (s.doHead p a).freeCount = s.freeCount ∧ (s.doHead p a).pending = s.pending ∧
    (∀ i : LaneId, (s.doHead p a).lane i = s.lane i) ∧ (∀ i : ProfileId, (s.doHead p a).profile i = s.profile i) := by
  cases a <;> simp [State.doHead]

/-- Acting on heads changes panel records, gate entries, the port, and the count of free choices. -/
@[simp] theorem actHeads_frame (fuel : Nat) (s : State) :
    (actHeads fuel s).part = s.part ∧ (actHeads fuel s).timer = s.timer ∧ (actHeads fuel s).ctl = s.ctl ∧
    (actHeads fuel s).tol = s.tol ∧ (actHeads fuel s).profiles = s.profiles ∧ (actHeads fuel s).lanes = s.lanes ∧
    (actHeads fuel s).pins = s.pins ∧ (actHeads fuel s).pending = s.pending ∧
    (∀ i : LaneId, (actHeads fuel s).lane i = s.lane i) ∧
    (∀ i : ProfileId, (actHeads fuel s).profile i = s.profile i) := by
  induction fuel generalizing s with
  | zero => simp [actHeads]
  | succ n ih =>
    unfold actHeads
    split
    · simp
    · split
      · simp
      · rename_i p rest _ _ a _
        have h := ih ((s.useFree (min rest.length 1)).doHead p a)
        simpa using h

/-! ### Chains -/

/-- A link poll changes a panel record and the port. -/
@[simp] theorem State.issuePoll_frame (s : State) (p : PanelId) :
    (s.issuePoll p).part = s.part ∧ (s.issuePoll p).timer = s.timer ∧ (s.issuePoll p).ctl = s.ctl ∧
    (s.issuePoll p).tol = s.tol ∧ (s.issuePoll p).profiles = s.profiles ∧ (s.issuePoll p).lanes = s.lanes ∧
    (s.issuePoll p).gates = s.gates ∧ (s.issuePoll p).pins = s.pins ∧ (s.issuePoll p).freeCount = s.freeCount ∧
    (s.issuePoll p).pending = s.pending ∧ (∀ i : LaneId, (s.issuePoll p).lane i = s.lane i) ∧
    (∀ i : GateId, (s.issuePoll p).gate i = s.gate i) ∧ (∀ i : ProfileId, (s.issuePoll p).profile i = s.profile i) := by
  unfold State.issuePoll
  split <;> simp

/-- Several polls also use free choices. -/
@[simp] theorem State.issuePolls_frame (s : State) (ps : List PanelId) :
    (s.issuePolls ps).part = s.part ∧ (s.issuePolls ps).timer = s.timer ∧ (s.issuePolls ps).ctl = s.ctl ∧
    (s.issuePolls ps).tol = s.tol ∧ (s.issuePolls ps).profiles = s.profiles ∧ (s.issuePolls ps).lanes = s.lanes ∧
    (s.issuePolls ps).gates = s.gates ∧ (s.issuePolls ps).pins = s.pins ∧ (s.issuePolls ps).pending = s.pending ∧
    (∀ i : LaneId, (s.issuePolls ps).lane i = s.lane i) ∧ (∀ i : GateId, (s.issuePolls ps).gate i = s.gate i) ∧
    (∀ i : ProfileId, (s.issuePolls ps).profile i = s.profile i) := by
  have h := fun (xs : List PanelId) (s' : State) => foldl_frame State.issuePoll (by intros; simp) xs s'
  have hg := fun (xs : List PanelId) (s' : State) => foldl_keeps (·.gates) State.issuePoll (by intros; simp) xs s'
  simp [State.issuePolls, State.lane, State.profile, State.gate, h, hg]

/-- A poll or a mark. -/
@[simp] theorem State.pollOrMark_frame (s : State) (p : PanelId) :
    (s.pollOrMark p).part = s.part ∧ (s.pollOrMark p).timer = s.timer ∧ (s.pollOrMark p).ctl = s.ctl ∧
    (s.pollOrMark p).tol = s.tol ∧ (s.pollOrMark p).profiles = s.profiles ∧ (s.pollOrMark p).lanes = s.lanes ∧
    (s.pollOrMark p).gates = s.gates ∧ (s.pollOrMark p).pins = s.pins ∧ (s.pollOrMark p).freeCount = s.freeCount ∧
    (s.pollOrMark p).pending = s.pending ∧ (∀ i : LaneId, (s.pollOrMark p).lane i = s.lane i) ∧
    (∀ i : GateId, (s.pollOrMark p).gate i = s.gate i) ∧ (∀ i : ProfileId, (s.pollOrMark p).profile i = s.profile i) := by
  unfold State.pollOrMark
  split <;> simp

/-- The end of an access. -/
@[simp] theorem State.accessEnded_frame (s : State) (p : PanelId) :
    (s.accessEnded p).part = s.part ∧ (s.accessEnded p).timer = s.timer ∧ (s.accessEnded p).ctl = s.ctl ∧
    (s.accessEnded p).tol = s.tol ∧ (s.accessEnded p).profiles = s.profiles ∧ (s.accessEnded p).lanes = s.lanes ∧
    (s.accessEnded p).gates = s.gates ∧ (s.accessEnded p).pins = s.pins ∧ (s.accessEnded p).freeCount = s.freeCount ∧
    (s.accessEnded p).pending = s.pending ∧ (∀ i : LaneId, (s.accessEnded p).lane i = s.lane i) ∧
    (∀ i : GateId, (s.accessEnded p).gate i = s.gate i) ∧ (∀ i : ProfileId, (s.accessEnded p).profile i = s.profile i) := by
  unfold State.accessEnded
  dsimp only
  split <;> simp

/-- The take of a ticket. -/
@[simp] theorem State.take_frame (s : State) (p : PanelId) (t : Ticket) :
    (s.take p t).part = s.part ∧ (s.take p t).timer = s.timer ∧ (s.take p t).ctl = s.ctl ∧ (s.take p t).tol = s.tol ∧
    (s.take p t).profiles = s.profiles ∧ (s.take p t).lanes = s.lanes ∧ (s.take p t).gates = s.gates ∧
    (s.take p t).pins = s.pins ∧ (s.take p t).freeCount = s.freeCount ∧ (s.take p t).pending = s.pending ∧
    (∀ i : LaneId, (s.take p t).lane i = s.lane i) ∧ (∀ i : GateId, (s.take p t).gate i = s.gate i) ∧
    (∀ i : ProfileId, (s.take p t).profile i = s.profile i) := by
  unfold State.take
  dsimp only
  split <;> simp

/-! ### Lanes -/

/-- A row request changes a lane and the port. -/
@[simp] theorem State.requestRow_frame (s : State) (l : LaneId) (b : BufId) :
    (s.requestRow l b).part = s.part ∧ (s.requestRow l b).timer = s.timer ∧ (s.requestRow l b).ctl = s.ctl ∧
    (s.requestRow l b).tol = s.tol ∧ (s.requestRow l b).panels = s.panels ∧
    (s.requestRow l b).profiles = s.profiles ∧ (s.requestRow l b).gates = s.gates ∧
    (s.requestRow l b).pins = s.pins ∧ (s.requestRow l b).freeCount = s.freeCount ∧
    (s.requestRow l b).pending = s.pending ∧ (∀ i : PanelId, (s.requestRow l b).panel i = s.panel i) ∧
    (∀ i : GateId, (s.requestRow l b).gate i = s.gate i) ∧
    (∀ i : ProfileId, (s.requestRow l b).profile i = s.profile i) := by
  unfold State.requestRow
  dsimp only
  repeat' split
  all_goals simp

/-- So do two. -/
@[simp] theorem State.requestRows_frame (s : State) (l : LaneId) :
    (s.requestRows l).part = s.part ∧ (s.requestRows l).timer = s.timer ∧ (s.requestRows l).ctl = s.ctl ∧
    (s.requestRows l).tol = s.tol ∧ (s.requestRows l).panels = s.panels ∧ (s.requestRows l).profiles = s.profiles ∧
    (s.requestRows l).gates = s.gates ∧ (s.requestRows l).pins = s.pins ∧ (s.requestRows l).freeCount = s.freeCount ∧
    (s.requestRows l).pending = s.pending ∧ (∀ i : PanelId, (s.requestRows l).panel i = s.panel i) ∧
    (∀ i : GateId, (s.requestRows l).gate i = s.gate i) ∧ (∀ i : ProfileId, (s.requestRows l).profile i = s.profile i) := by
  simp [State.requestRows]

/-- So does the start of a transaction. -/
@[simp] theorem State.startTx_frame (s : State) (l : LaneId) (t : Tx) :
    (s.startTx l t).part = s.part ∧ (s.startTx l t).timer = s.timer ∧ (s.startTx l t).ctl = s.ctl ∧
    (s.startTx l t).tol = s.tol ∧ (s.startTx l t).panels = s.panels ∧ (s.startTx l t).profiles = s.profiles ∧
    (s.startTx l t).gates = s.gates ∧ (s.startTx l t).pins = s.pins ∧ (s.startTx l t).freeCount = s.freeCount ∧
    (s.startTx l t).pending = s.pending ∧ (∀ i : PanelId, (s.startTx l t).panel i = s.panel i) ∧
    (∀ i : GateId, (s.startTx l t).gate i = s.gate i) ∧ (∀ i : ProfileId, (s.startTx l t).profile i = s.profile i) := by
  simp [State.startTx]

/-- Dropping a lane's fetches changes the port. -/
@[simp] theorem State.dropPixels_frame (s : State) (l : LaneId) :
    (s.dropPixels l).part = s.part ∧ (s.dropPixels l).timer = s.timer ∧ (s.dropPixels l).ctl = s.ctl ∧
    (s.dropPixels l).tol = s.tol ∧ (s.dropPixels l).panels = s.panels ∧ (s.dropPixels l).profiles = s.profiles ∧
    (s.dropPixels l).lanes = s.lanes ∧ (s.dropPixels l).gates = s.gates ∧ (s.dropPixels l).pins = s.pins ∧
    (s.dropPixels l).freeCount = s.freeCount ∧ (s.dropPixels l).pending = s.pending ∧
    (∀ i : PanelId, (s.dropPixels l).panel i = s.panel i) ∧ (∀ i : LaneId, (s.dropPixels l).lane i = s.lane i) ∧
    (∀ i : GateId, (s.dropPixels l).gate i = s.gate i) ∧ (∀ i : ProfileId, (s.dropPixels l).profile i = s.profile i) := by
  simp [State.dropPixels]

/-- The PARK of a cut transaction goes on in the control port. -/
@[simp] theorem State.parkWriteWait_frame (s : State) (p : PanelId) :
    (s.parkWriteWait p).part = s.part ∧ (s.parkWriteWait p).timer = s.timer ∧ (s.parkWriteWait p).tol = s.tol ∧
    (s.parkWriteWait p).port = s.port ∧ (s.parkWriteWait p).panels = s.panels ∧
    (s.parkWriteWait p).profiles = s.profiles ∧ (s.parkWriteWait p).lanes = s.lanes ∧
    (s.parkWriteWait p).gates = s.gates ∧ (s.parkWriteWait p).pins = s.pins ∧
    (s.parkWriteWait p).freeCount = s.freeCount ∧ (s.parkWriteWait p).pending = s.pending ∧
    (∀ i : PanelId, (s.parkWriteWait p).panel i = s.panel i) ∧
    (∀ i : LaneId, (s.parkWriteWait p).lane i = s.lane i) ∧ (∀ i : GateId, (s.parkWriteWait p).gate i = s.gate i) ∧
    (∀ i : ProfileId, (s.parkWriteWait p).profile i = s.profile i) := by
  unfold State.parkWriteWait
  split <;> (try split) <;> simp

/-- The report of a cut changes panel records, the port and the control port. -/
@[simp] theorem State.reportCut_frame (s : State) (p : PanelId) (cause : AbortCause) (work : Work) :
    (s.reportCut p cause work).part = s.part ∧ (s.reportCut p cause work).timer = s.timer ∧
    (s.reportCut p cause work).tol = s.tol ∧ (s.reportCut p cause work).profiles = s.profiles ∧
    (s.reportCut p cause work).lanes = s.lanes ∧ (s.reportCut p cause work).gates = s.gates ∧
    (s.reportCut p cause work).pins = s.pins ∧ (s.reportCut p cause work).freeCount = s.freeCount ∧
    (s.reportCut p cause work).pending = s.pending ∧ (∀ i : LaneId, (s.reportCut p cause work).lane i = s.lane i) ∧
    (∀ i : GateId, (s.reportCut p cause work).gate i = s.gate i) ∧
    (∀ i : ProfileId, (s.reportCut p cause work).profile i = s.profile i) := by
  unfold State.reportCut
  dsimp only
  repeat' split
  all_goals simp

/-- A deassertion also changes its lane. -/
@[simp] theorem State.deassert_frame (s : State) (l : LaneId) :
    (s.deassert l).part = s.part ∧ (s.deassert l).timer = s.timer ∧ (s.deassert l).tol = s.tol ∧
    (s.deassert l).profiles = s.profiles ∧ (s.deassert l).gates = s.gates ∧ (s.deassert l).pins = s.pins ∧
    (s.deassert l).freeCount = s.freeCount ∧ (s.deassert l).pending = s.pending ∧
    (∀ i : GateId, (s.deassert l).gate i = s.gate i) ∧ (∀ i : ProfileId, (s.deassert l).profile i = s.profile i) := by
  unfold State.deassert
  dsimp only
  split <;> simp

/-- So does a cut at once. -/
@[simp] theorem State.cutNow_frame (s : State) (l : LaneId) (cause : AbortCause) :
    (s.cutNow l cause).part = s.part ∧ (s.cutNow l cause).timer = s.timer ∧ (s.cutNow l cause).tol = s.tol ∧
    (s.cutNow l cause).profiles = s.profiles ∧ (s.cutNow l cause).gates = s.gates ∧ (s.cutNow l cause).pins = s.pins ∧
    (s.cutNow l cause).freeCount = s.freeCount ∧ (s.cutNow l cause).pending = s.pending ∧
    (∀ i : GateId, (s.cutNow l cause).gate i = s.gate i) ∧ (∀ i : ProfileId, (s.cutNow l cause).profile i = s.profile i) := by
  unfold State.cutNow
  simp

/-- So does an abort. -/
@[simp] theorem State.abort_frame (s : State) (l : LaneId) (cause : AbortCause) :
    (s.abort l cause).part = s.part ∧ (s.abort l cause).timer = s.timer ∧ (s.abort l cause).tol = s.tol ∧
    (s.abort l cause).profiles = s.profiles ∧ (s.abort l cause).gates = s.gates ∧ (s.abort l cause).pins = s.pins ∧
    (s.abort l cause).freeCount = s.freeCount ∧ (s.abort l cause).pending = s.pending ∧
    (∀ i : GateId, (s.abort l cause).gate i = s.gate i) ∧ (∀ i : ProfileId, (s.abort l cause).profile i = s.profile i) := by
  unfold State.abort
  dsimp only
  split <;> simp

/-- So does the abort of a panel's transaction. -/
@[simp] theorem State.abortPanel_frame (s : State) (p : PanelId) (cause : AbortCause) :
    (s.abortPanel p cause).part = s.part ∧ (s.abortPanel p cause).timer = s.timer ∧
    (s.abortPanel p cause).tol = s.tol ∧ (s.abortPanel p cause).profiles = s.profiles ∧
    (s.abortPanel p cause).gates = s.gates ∧ (s.abortPanel p cause).pins = s.pins ∧
    (s.abortPanel p cause).freeCount = s.freeCount ∧ (s.abortPanel p cause).pending = s.pending ∧
    (∀ i : GateId, (s.abortPanel p cause).gate i = s.gate i) ∧
    (∀ i : ProfileId, (s.abortPanel p cause).profile i = s.profile i) := by
  unfold State.abortPanel
  split <;> simp

/-- So does the abort of a forced park. -/
@[simp] theorem State.forcePark_frame (s : State) (w : WaitEnd) :
    (s.forcePark w).part = s.part ∧ (s.forcePark w).timer = s.timer ∧ (s.forcePark w).tol = s.tol ∧
    (s.forcePark w).profiles = s.profiles ∧ (s.forcePark w).gates = s.gates ∧ (s.forcePark w).pins = s.pins ∧
    (s.forcePark w).freeCount = s.freeCount ∧ (s.forcePark w).pending = s.pending ∧
    (∀ i : GateId, (s.forcePark w).gate i = s.gate i) ∧ (∀ i : ProfileId, (s.forcePark w).profile i = s.profile i) := by
  unfold State.forcePark
  dsimp only
  split <;> simp

/-- A pixel error also breaks gates. -/
@[simp] theorem State.pixelError_frame (s : State) (l : LaneId) :
    (s.pixelError l).part = s.part ∧ (s.pixelError l).timer = s.timer ∧ (s.pixelError l).tol = s.tol ∧
    (s.pixelError l).profiles = s.profiles ∧ (s.pixelError l).pins = s.pins ∧
    (s.pixelError l).freeCount = s.freeCount ∧ (s.pixelError l).pending = s.pending ∧
    (∀ i : ProfileId, (s.pixelError l).profile i = s.profile i) := by
  unfold State.pixelError
  dsimp only
  repeat' split
  all_goals simp

/-! ### Tolerance -/

/-- A message changes the tolerance reporter. -/
@[simp] theorem State.sendLevel_frame (s : State) :
    (s.sendLevel).part = s.part ∧ (s.sendLevel).timer = s.timer ∧ (s.sendLevel).ctl = s.ctl ∧
    (s.sendLevel).port = s.port ∧ (s.sendLevel).panels = s.panels ∧ (s.sendLevel).profiles = s.profiles ∧
    (s.sendLevel).lanes = s.lanes ∧ (s.sendLevel).gates = s.gates ∧ (s.sendLevel).pins = s.pins ∧
    (s.sendLevel).freeCount = s.freeCount ∧ (s.sendLevel).pending = s.pending ∧
    (∀ i : PanelId, (s.sendLevel).panel i = s.panel i) ∧ (∀ i : LaneId, (s.sendLevel).lane i = s.lane i) ∧
    (∀ i : GateId, (s.sendLevel).gate i = s.gate i) ∧ (∀ i : ProfileId, (s.sendLevel).profile i = s.profile i) := by
  unfold State.sendLevel
  split <;> simp

/-- So does a recompute. -/
@[simp] theorem State.recompute_frame (s : State) :
    (s.recompute).part = s.part ∧ (s.recompute).timer = s.timer ∧ (s.recompute).ctl = s.ctl ∧
    (s.recompute).port = s.port ∧ (s.recompute).panels = s.panels ∧ (s.recompute).profiles = s.profiles ∧
    (s.recompute).lanes = s.lanes ∧ (s.recompute).gates = s.gates ∧ (s.recompute).pins = s.pins ∧
    (s.recompute).freeCount = s.freeCount ∧ (s.recompute).pending = s.pending ∧
    (∀ i : PanelId, (s.recompute).panel i = s.panel i) ∧ (∀ i : LaneId, (s.recompute).lane i = s.lane i) ∧
    (∀ i : GateId, (s.recompute).gate i = s.gate i) ∧ (∀ i : ProfileId, (s.recompute).profile i = s.profile i) := by
  unfold State.recompute
  dsimp only
  split <;> simp

/-- A write of TOL_ENABLE also changes the control port. -/
@[simp] theorem State.setTolEnable_frame (s : State) (en : Bool) :
    (s.setTolEnable en).part = s.part ∧ (s.setTolEnable en).timer = s.timer ∧ (s.setTolEnable en).port = s.port ∧
    (s.setTolEnable en).panels = s.panels ∧ (s.setTolEnable en).profiles = s.profiles ∧
    (s.setTolEnable en).lanes = s.lanes ∧ (s.setTolEnable en).gates = s.gates ∧ (s.setTolEnable en).pins = s.pins ∧
    (s.setTolEnable en).freeCount = s.freeCount ∧ (s.setTolEnable en).pending = s.pending ∧
    (∀ i : PanelId, (s.setTolEnable en).panel i = s.panel i) ∧
    (∀ i : LaneId, (s.setTolEnable en).lane i = s.lane i) ∧ (∀ i : GateId, (s.setTolEnable en).gate i = s.gate i) ∧
    (∀ i : ProfileId, (s.setTolEnable en).profile i = s.profile i) := by
  unfold State.setTolEnable
  dsimp only
  repeat' split
  all_goals simp

/-! ### The waiting request and the end of an event -/

/-- UNBIND going on. -/
@[simp] theorem State.unbindProceed_frame (s : State) (p : PanelId) :
    (s.unbindProceed p).part = s.part ∧ (s.unbindProceed p).timer = s.timer ∧ (s.unbindProceed p).tol = s.tol ∧
    (s.unbindProceed p).profiles = s.profiles ∧ (s.unbindProceed p).pins = s.pins ∧
    (s.unbindProceed p).freeCount = s.freeCount ∧ (s.unbindProceed p).pending = s.pending ∧
    (∀ i : ProfileId, (s.unbindProceed p).profile i = s.profile i) := by
  simp [State.unbindProceed]

/-- UNBIND completing. -/
@[simp] theorem State.unbindFinish_frame (s : State) (p : PanelId) :
    (s.unbindFinish p).part = s.part ∧ (s.unbindFinish p).timer = s.timer ∧ (s.unbindFinish p).tol = s.tol ∧
    (s.unbindFinish p).port = s.port ∧ (s.unbindFinish p).profiles = s.profiles ∧
    (s.unbindFinish p).lanes = s.lanes ∧ (s.unbindFinish p).gates = s.gates ∧ (s.unbindFinish p).pins = s.pins ∧
    (s.unbindFinish p).freeCount = s.freeCount ∧ (s.unbindFinish p).pending = s.pending ∧
    (∀ i : LaneId, (s.unbindFinish p).lane i = s.lane i) ∧ (∀ i : GateId, (s.unbindFinish p).gate i = s.gate i) ∧
    (∀ i : ProfileId, (s.unbindFinish p).profile i = s.profile i) := by
  unfold State.unbindFinish
  split <;> simp

/-- REWIND going on. -/
@[simp] theorem State.rewindProceed_frame (s : State) (p : PanelId) (addr : Word) :
    (s.rewindProceed p addr).part = s.part ∧ (s.rewindProceed p addr).timer = s.timer ∧
    (s.rewindProceed p addr).tol = s.tol ∧ (s.rewindProceed p addr).profiles = s.profiles ∧
    (s.rewindProceed p addr).lanes = s.lanes ∧ (s.rewindProceed p addr).pins = s.pins ∧
    (s.rewindProceed p addr).freeCount = s.freeCount ∧ (s.rewindProceed p addr).pending = s.pending ∧
    (∀ i : LaneId, (s.rewindProceed p addr).lane i = s.lane i) ∧
    (∀ i : ProfileId, (s.rewindProceed p addr).profile i = s.profile i) := by
  simp [State.rewindProceed]

/-- A request whose writes are answered. -/
@[simp] theorem State.finishWrites_frame (s : State) (res : Result) :
    (s.finishWrites res).part = s.part ∧ (s.finishWrites res).timer = s.timer ∧ (s.finishWrites res).tol = s.tol ∧
    (s.finishWrites res).port = s.port ∧ (s.finishWrites res).panels = s.panels ∧
    (s.finishWrites res).profiles = s.profiles ∧ (s.finishWrites res).lanes = s.lanes ∧
    (s.finishWrites res).gates = s.gates ∧ (s.finishWrites res).pins = s.pins ∧
    (s.finishWrites res).freeCount = s.freeCount ∧ (s.finishWrites res).pending = s.pending ∧
    (∀ i : PanelId, (s.finishWrites res).panel i = s.panel i) ∧
    (∀ i : LaneId, (s.finishWrites res).lane i = s.lane i) ∧ (∀ i : GateId, (s.finishWrites res).gate i = s.gate i) ∧
    (∀ i : ProfileId, (s.finishWrites res).profile i = s.profile i) := by
  unfold State.finishWrites
  split <;> simp

/-- The waiting request. -/
@[simp] theorem State.advance_frame (s : State) :
    (s.advance).part = s.part ∧ (s.advance).timer = s.timer ∧ (s.advance).tol = s.tol ∧
    (s.advance).profiles = s.profiles ∧ (s.advance).pins = s.pins ∧ (s.advance).freeCount = s.freeCount ∧
    (s.advance).pending = s.pending ∧ (∀ i : ProfileId, (s.advance).profile i = s.profile i) := by
  unfold State.advance
  dsimp only
  repeat' split
  all_goals simp

/-- The closing of an event. -/
@[simp] theorem State.commit_frame (s : State) :
    (s.commit).part = s.part ∧ (s.commit).timer = s.timer ∧ (s.commit).profiles = s.profiles ∧
    (s.commit).pins = s.pins ∧ (s.commit).pending = s.pending ∧ (∀ i : ProfileId, (s.commit).profile i = s.profile i) := by
  simp [State.commit]

/-! ### Completions -/

/-- A strip completes. -/
@[simp] theorem State.completeStrip_frame (s : State) (p : PanelId) (n : Nat) :
    (s.completeStrip p n).part = s.part ∧ (s.completeStrip p n).timer = s.timer ∧ (s.completeStrip p n).ctl = s.ctl ∧
    (s.completeStrip p n).tol = s.tol ∧ (s.completeStrip p n).profiles = s.profiles ∧
    (s.completeStrip p n).lanes = s.lanes ∧ (s.completeStrip p n).gates = s.gates ∧
    (s.completeStrip p n).pins = s.pins ∧ (s.completeStrip p n).freeCount = s.freeCount ∧
    (s.completeStrip p n).pending = s.pending ∧ (∀ i : LaneId, (s.completeStrip p n).lane i = s.lane i) ∧
    (∀ i : GateId, (s.completeStrip p n).gate i = s.gate i) ∧
    (∀ i : ProfileId, (s.completeStrip p n).profile i = s.profile i) := by
  unfold State.completeStrip
  dsimp only
  repeat' split
  all_goals simp

/-- A settle ends. -/
@[simp] theorem State.endSettle_frame (s : State) (p : PanelId) :
    (s.endSettle p).part = s.part ∧ (s.endSettle p).timer = s.timer ∧ (s.endSettle p).ctl = s.ctl ∧
    (s.endSettle p).tol = s.tol ∧ (s.endSettle p).profiles = s.profiles ∧ (s.endSettle p).lanes = s.lanes ∧
    (s.endSettle p).gates = s.gates ∧ (s.endSettle p).pins = s.pins ∧ (s.endSettle p).freeCount = s.freeCount ∧
    (s.endSettle p).pending = s.pending ∧ (∀ i : LaneId, (s.endSettle p).lane i = s.lane i) ∧
    (∀ i : GateId, (s.endSettle p).gate i = s.gate i) ∧ (∀ i : ProfileId, (s.endSettle p).profile i = s.profile i) := by
  unfold State.endSettle
  dsimp only
  repeat' split
  all_goals simp

/-- A completion's work on the head. -/
@[simp] theorem State.applyWork_frame (s : State) (p : PanelId) (work : Work) (reply : List Byte) :
    (s.applyWork p work reply).part = s.part ∧ (s.applyWork p work reply).timer = s.timer ∧
    (s.applyWork p work reply).ctl = s.ctl ∧ (s.applyWork p work reply).tol = s.tol ∧
    (s.applyWork p work reply).profiles = s.profiles ∧ (s.applyWork p work reply).lanes = s.lanes ∧
    (s.applyWork p work reply).gates = s.gates ∧ (s.applyWork p work reply).pins = s.pins ∧
    (s.applyWork p work reply).freeCount = s.freeCount ∧ (s.applyWork p work reply).pending = s.pending ∧
    (∀ i : LaneId, (s.applyWork p work reply).lane i = s.lane i) ∧
    (∀ i : GateId, (s.applyWork p work reply).gate i = s.gate i) ∧
    (∀ i : ProfileId, (s.applyWork p work reply).profile i = s.profile i) := by
  cases work <;>
    simp [State.applyWork, State.completeRead, State.completeSleep, State.completeWake] <;>
    (repeat' split) <;> simp

/-- The PARK that waited for it. -/
@[simp] theorem State.parkDone_frame (s : State) (p : PanelId) :
    (s.parkDone p).part = s.part ∧ (s.parkDone p).timer = s.timer ∧ (s.parkDone p).tol = s.tol ∧
    (s.parkDone p).port = s.port ∧ (s.parkDone p).panels = s.panels ∧ (s.parkDone p).profiles = s.profiles ∧
    (s.parkDone p).lanes = s.lanes ∧ (s.parkDone p).gates = s.gates ∧ (s.parkDone p).pins = s.pins ∧
    (s.parkDone p).freeCount = s.freeCount ∧ (s.parkDone p).pending = s.pending ∧
    (∀ i : PanelId, (s.parkDone p).panel i = s.panel i) ∧ (∀ i : LaneId, (s.parkDone p).lane i = s.lane i) ∧
    (∀ i : GateId, (s.parkDone p).gate i = s.gate i) ∧ (∀ i : ProfileId, (s.parkDone p).profile i = s.profile i) := by
  unfold State.parkDone
  split <;> (try split) <;> simp

/-- A completion. -/
@[simp] theorem State.applyCompletion_frame (s : State) (p : PanelId) (work : Work) (reply : List Byte) :
    (s.applyCompletion p work reply).part = s.part ∧ (s.applyCompletion p work reply).timer = s.timer ∧
    (s.applyCompletion p work reply).tol = s.tol ∧ (s.applyCompletion p work reply).profiles = s.profiles ∧
    (s.applyCompletion p work reply).lanes = s.lanes ∧ (s.applyCompletion p work reply).gates = s.gates ∧
    (s.applyCompletion p work reply).pins = s.pins ∧ (s.applyCompletion p work reply).freeCount = s.freeCount ∧
    (s.applyCompletion p work reply).pending = s.pending ∧
    (∀ i : LaneId, (s.applyCompletion p work reply).lane i = s.lane i) ∧
    (∀ i : GateId, (s.applyCompletion p work reply).gate i = s.gate i) ∧
    (∀ i : ProfileId, (s.applyCompletion p work reply).profile i = s.profile i) := by
  simp [State.applyCompletion]

end Sys2Proof.Machine
end

