-- ==== Sys2Proof/Laws/Shared.lean ====
section
/-! SUPPORT. What the shared operations do: endings of tickets, free orders, requests, answers, and the lane unit's steps. -/
namespace Sys2Proof.Machine

/-! ### A response's place freed -/

section
variable (s : State) (x : ReadTxn) (rest : List WriteTxn)

@[simp] theorem State.readFreed_part : (s.readFreed x).part = s.part := rfl
@[simp] theorem State.readFreed_timer : (s.readFreed x).timer = s.timer := rfl
@[simp] theorem State.readFreed_ctl : (s.readFreed x).ctl = s.ctl := rfl
@[simp] theorem State.readFreed_tol : (s.readFreed x).tol = s.tol := rfl
@[simp] theorem State.readFreed_port : (s.readFreed x).port = { s.port with outReads := s.port.outReads.erase x } := rfl
@[simp] theorem State.readFreed_panels : (s.readFreed x).panels = s.panels := rfl
@[simp] theorem State.readFreed_profiles : (s.readFreed x).profiles = s.profiles := rfl
@[simp] theorem State.readFreed_lanes : (s.readFreed x).lanes = s.lanes := rfl
@[simp] theorem State.readFreed_gates : (s.readFreed x).gates = s.gates := rfl
@[simp] theorem State.readFreed_pins : (s.readFreed x).pins = s.pins := rfl
@[simp] theorem State.readFreed_freeCount : (s.readFreed x).freeCount = s.freeCount := rfl
@[simp] theorem State.readFreed_pending : (s.readFreed x).pending = s.pending := rfl
@[simp] theorem State.readFreed_panel (q : PanelId) : (s.readFreed x).panel q = s.panel q := rfl
@[simp] theorem State.readFreed_lane (q : LaneId) : (s.readFreed x).lane q = s.lane q := rfl
@[simp] theorem State.readFreed_gate (q : GateId) : (s.readFreed x).gate q = s.gate q := rfl
@[simp] theorem State.readFreed_profile (q : ProfileId) : (s.readFreed x).profile q = s.profile q := rfl
@[simp] theorem State.writeFreed_part : (s.writeFreed rest).part = s.part := rfl
@[simp] theorem State.writeFreed_timer : (s.writeFreed rest).timer = s.timer := rfl
@[simp] theorem State.writeFreed_ctl : (s.writeFreed rest).ctl = s.ctl := rfl
@[simp] theorem State.writeFreed_tol : (s.writeFreed rest).tol = s.tol := rfl
@[simp] theorem State.writeFreed_port : (s.writeFreed rest).port = { s.port with outWrites := rest } := rfl
@[simp] theorem State.writeFreed_panels : (s.writeFreed rest).panels = s.panels := rfl
@[simp] theorem State.writeFreed_profiles : (s.writeFreed rest).profiles = s.profiles := rfl
@[simp] theorem State.writeFreed_lanes : (s.writeFreed rest).lanes = s.lanes := rfl
@[simp] theorem State.writeFreed_gates : (s.writeFreed rest).gates = s.gates := rfl
@[simp] theorem State.writeFreed_pins : (s.writeFreed rest).pins = s.pins := rfl
@[simp] theorem State.writeFreed_freeCount : (s.writeFreed rest).freeCount = s.freeCount := rfl
@[simp] theorem State.writeFreed_pending : (s.writeFreed rest).pending = s.pending := rfl
@[simp] theorem State.writeFreed_panel (q : PanelId) : (s.writeFreed rest).panel q = s.panel q := rfl
@[simp] theorem State.writeFreed_lane (q : LaneId) : (s.writeFreed rest).lane q = s.lane q := rfl
@[simp] theorem State.writeFreed_gate (q : GateId) : (s.writeFreed rest).gate q = s.gate q := rfl
@[simp] theorem State.writeFreed_profile (q : ProfileId) : (s.writeFreed rest).profile q = s.profile q := rfl

end

/-! ### Endings of tickets -/

/-- The write of a final status is `finalWrite`. -/
theorem State.writeStatus_eq (s : State) (p : PanelId) (e : Entry) (f : Final) (o : Bool) :
    s.writeStatus p e.ticket.addr e.ticket.notify f o = s.takeWrite (finalWrite p o (e, f)) := rfl

/-- The writes of ended tickets join the queue in their order. -/
theorem State.writeEnds_port (s : State) (p : PanelId) (o : Bool) (ends : List (Entry × Final)) :
    (s.writeEnds p o ends).port = { s.port with writeQ := s.port.writeQ ++ ends.map (finalWrite p o) } := by
  induction ends generalizing s with
  | nil => simp [State.writeEnds]
  | cons e rest ih =>
    have h : s.writeEnds p o (e :: rest) = (s.takeWrite (finalWrite p o e)).writeEnds p o rest := rfl
    rw [h, ih]
    simp

/-- The entries that end and the entries that stay, by index. -/
theorem splitEnds_eq (sel : Nat → Entry → Option Final) (i : Nat) (xs : List Entry) :
    splitEnds sel i xs =
      ((xs.zipIdx i).filterMap (fun e => (sel e.2 e.1).map fun f => (e.1, f)),
       (xs.zipIdx i).filterMap (fun e => if (sel e.2 e.1).isSome then none else some e.1)) := by
  induction xs generalizing i with
  | nil => rfl
  | cons e rest ih =>
    rw [splitEnds, ih]
    cases h : sel i e <;> simp [h]

/-- Ending tickets of one panel leaves the records of the others. -/
theorem State.endTickets_panel_ne (s : State) {p q : PanelId} (h : q ≠ p) (sel : Nat → Entry → Option Final)
    (o : Bool) : (s.endTickets p sel o).panel q = s.panel q := by
  simp [State.endTickets, State.setPanel_panel_ne, h]

/-- Ending tickets changes a panel's window and head progress and nothing else of its record. -/
@[simp] theorem State.endTickets_panel_frame (s : State) (p q : PanelId) (sel : Nat → Entry → Option Final) (o : Bool) :
    ((s.endTickets p sel o).panel q).state = (s.panel q).state ∧
    ((s.endTickets p sel o).panel q).desc = (s.panel q).desc ∧
    ((s.endTickets p sel o).panel q).profile = (s.panel q).profile ∧
    ((s.endTickets p sel o).panel q).unbindPending = (s.panel q).unbindPending ∧
    ((s.endTickets p sel o).panel q).parkWait = (s.panel q).parkWait ∧
    ((s.endTickets p sel o).panel q).cursor = (s.panel q).cursor ∧
    ((s.endTickets p sel o).panel q).access = (s.panel q).access ∧
    ((s.endTickets p sel o).panel q).fetched = (s.panel q).fetched ∧
    ((s.endTickets p sel o).panel q).repoll = (s.panel q).repoll ∧
    ((s.endTickets p sel o).panel q).resumePoll = (s.panel q).resumePoll ∧
    ((s.endTickets p sel o).panel q).cont = (s.panel q).cont ∧
    ((s.endTickets p sel o).panel q).display = (s.panel q).display ∧
    ((s.endTickets p sel o).panel q).settle = (s.panel q).settle ∧
    ((s.endTickets p sel o).panel q).scroll = (s.panel q).scroll ∧
    ((s.endTickets p sel o).panel q).credit = (s.panel q).credit ∧
    ((s.endTickets p sel o).panel q).tear = (s.panel q).tear ∧
    ((s.endTickets p sel o).panel q).fault = (s.panel q).fault ∧
    ((s.endTickets p sel o).panel q).gateAt = (s.panel q).gateAt := by
  by_cases h : q = p
  · subst h
    simp [State.endTickets]
  · simp [State.endTickets_panel_ne, h]

/-- The head's ending is an ending of tickets. -/
@[simp] theorem State.endHead_panel_frame (s : State) (p q : PanelId) (f : Final) (o : Bool) :
    ((s.endHead p f o).panel q).state = (s.panel q).state ∧ ((s.endHead p f o).panel q).desc = (s.panel q).desc ∧
    ((s.endHead p f o).panel q).profile = (s.panel q).profile ∧
    ((s.endHead p f o).panel q).unbindPending = (s.panel q).unbindPending ∧
    ((s.endHead p f o).panel q).parkWait = (s.panel q).parkWait ∧
    ((s.endHead p f o).panel q).cursor = (s.panel q).cursor ∧
    ((s.endHead p f o).panel q).access = (s.panel q).access ∧
    ((s.endHead p f o).panel q).fetched = (s.panel q).fetched ∧
    ((s.endHead p f o).panel q).repoll = (s.panel q).repoll ∧
    ((s.endHead p f o).panel q).resumePoll = (s.panel q).resumePoll ∧
    ((s.endHead p f o).panel q).cont = (s.panel q).cont ∧
    ((s.endHead p f o).panel q).display = (s.panel q).display ∧
    ((s.endHead p f o).panel q).settle = (s.panel q).settle ∧
    ((s.endHead p f o).panel q).scroll = (s.panel q).scroll ∧
    ((s.endHead p f o).panel q).credit = (s.panel q).credit ∧
    ((s.endHead p f o).panel q).tear = (s.panel q).tear ∧
    ((s.endHead p f o).panel q).fault = (s.panel q).fault ∧
    ((s.endHead p f o).panel q).gateAt = (s.panel q).gateAt :=
  State.endTickets_panel_frame ..

/-- An ending only adds to the write queue, at its tail. -/
theorem State.endTickets_port (s : State) (p : PanelId) (sel : Nat → Entry → Option Final) (o : Bool) :
    (s.endTickets p sel o).port =
      { s.port with writeQ := s.port.writeQ ++ (splitEnds sel 0 (s.panel p).window).1.map (finalWrite p o) } := by
  simp [State.endTickets, State.writeEnds_port]

/-- Ending the head selects the first entry alone. -/
theorem splitEnds_head (f : Final) (e : Entry) (rest : List Entry) :
    splitEnds (fun i _ => if i = 0 then some f else none) 0 (e :: rest) = ([(e, f)], rest) := by
  have later : ∀ (xs : List Entry) (i : Nat),
      splitEnds (fun i _ => if i = 0 then some f else none) (i + 1) xs = ([], xs) := by
    intro xs
    induction xs with
    | nil => intros; rfl
    | cons a t ih =>
      intro i
      rw [splitEnds, ih]
      simp
  rw [splitEnds, later]
  simp

/-- The panel record after its head has ended. -/
theorem State.endHead_panel_same (s : State) (p : PanelId) (f : Final) (o : Bool) :
    (s.endHead p f o).panel p = { s.panel p with
      window := (s.panel p).window.drop 1
      head := if (s.panel p).window = [] then (s.panel p).head else .clear } := by
  unfold State.endHead State.endTickets
  cases hw : (s.panel p).window with
  | nil =>
    simp [hw, splitEnds]
  | cons e rest => simp [hw, splitEnds_head]

/-- The other panels' records after it. -/
theorem State.endHead_panel_ne (s : State) {p q : PanelId} (h : q ≠ p) (f : Final) (o : Bool) :
    (s.endHead p f o).panel q = s.panel q := State.endTickets_panel_ne s h _ _

/-- The port after a head has ended. -/
theorem State.endHead_port (s : State) (p : PanelId) (f : Final) (o : Bool) :
    (s.endHead p f o).port = match (s.panel p).window with
      | [] => s.port
      | e :: _ => { s.port with writeQ := s.port.writeQ ++ [finalWrite p o (e, f)] } := by
  unfold State.endHead
  rw [State.endTickets_port]
  cases hw : (s.panel p).window with
  | nil => simp [splitEnds]
  | cons e rest => simp [splitEnds_head]

/-- A view of one panel record that no step of a break changes is kept by the break. -/
theorem State.breakGate_panel_keeps {β : Type} (view : Panel → β) (q : PanelId)
    (hEnd : ∀ (s : State) (p : PanelId) (f : Final) (o : Bool), view ((s.endHead p f o).panel q) = view (s.panel q))
    (hGate : ∀ r : Panel, view { r with gateAt := none } = view r) (s : State) (g : GateId) (reason : Reason)
    (own : PanelId → Bool) : view ((s.breakGate g reason own).panel q) = view (s.panel q) := by
  have h := foldl_keeps (fun s : State => view (s.panel q)) (fun (s : State) p =>
    (s.endHead p { state := .gateBroken, reason := reason, detail := 0 } (own p)).modPanel p
      fun r => { r with gateAt := none })
    (by
      intro s p
      rw [State.modPanel_panel]
      split
      · rename_i hq
        subst hq
        rw [hGate, hEnd]
      · rw [hEnd]) (s.gate g).list s
  simpa [State.breakGate] using h

/-- A break leaves the state, tear channel, descriptor and fault code of every panel. -/
@[simp] theorem State.breakGate_panel_frame (s : State) (g : GateId) (reason : Reason) (own : PanelId → Bool)
    (q : PanelId) :
    ((s.breakGate g reason own).panel q).state = (s.panel q).state ∧
    ((s.breakGate g reason own).panel q).tear = (s.panel q).tear ∧
    ((s.breakGate g reason own).panel q).desc = (s.panel q).desc ∧
    ((s.breakGate g reason own).panel q).fault = (s.panel q).fault ∧
    ((s.breakGate g reason own).panel q).access = (s.panel q).access ∧
    ((s.breakGate g reason own).panel q).cursor = (s.panel q).cursor ∧
    ((s.breakGate g reason own).panel q).credit = (s.panel q).credit :=
  ⟨State.breakGate_panel_keeps (·.state) q (by simp) (by simp) s g reason own,
    State.breakGate_panel_keeps (·.tear) q (by simp) (by simp) s g reason own,
    State.breakGate_panel_keeps (·.desc) q (by simp) (by simp) s g reason own,
    State.breakGate_panel_keeps (·.fault) q (by simp) (by simp) s g reason own,
    State.breakGate_panel_keeps (·.access) q (by simp) (by simp) s g reason own,
    State.breakGate_panel_keeps (·.cursor) q (by simp) (by simp) s g reason own,
    State.breakGate_panel_keeps (·.credit) q (by simp) (by simp) s g reason own⟩

/-- A break leaves its entry FREE. -/
@[simp] theorem State.breakGate_gate_same (s : State) (g : GateId) (reason : Reason) (own : PanelId → Bool) :
    (s.breakGate g reason own).gate g = Gate.free := by
  simp [State.breakGate]

/-! ### Free orders -/

/-- A list is an element of it and the others. -/
theorem perm_eraseIdx {α : Type} (xs : List α) (i : Nat) (c : α) (h : xs[i]? = some c) :
    xs.Perm (c :: xs.eraseIdx i) := by
  induction xs generalizing i with
  | nil => simp at h
  | cons y ys ih =>
    cases i with
    | zero => simp_all
    | succ j => exact ((ih j (by simpa using h)).cons y).trans (.swap ..)

/-- A pick gives one of the candidates, and the others. -/
theorem pickFree_perm {α : Type} (n : Nat) (xs : List α) (x : α) (rest : List α) (h : pickFree n xs = some (x, rest)) :
    xs.Perm (x :: rest) := by
  match xs, h with
  | [y], h =>
    simp [pickFree] at h
    simp [h]
  | y :: z :: ys, h =>
    simp only [pickFree, Option.map_eq_some_iff, Prod.mk.injEq] at h
    obtain ⟨c, hc, rfl, rfl⟩ := h
    exact perm_eraseIdx _ _ _ hc

/-- A pick from a list with a candidate gives one. -/
theorem pickFree_isSome {α : Type} (n : Nat) (xs : List α) (h : xs ≠ []) : (pickFree n xs).isSome = true := by
  match xs, h with
  | [y], _ => rfl
  | y :: z :: ys, _ =>
    have hlt : Config.freeChoice n % (y :: z :: ys).length < (y :: z :: ys).length := Nat.mod_lt _ (by simp)
    simp only [pickFree, Option.isSome_map]
    rw [List.getElem?_eq_getElem hlt]
    rfl

/-- A free order is an order of the same candidates. -/
theorem orderFree_perm {α : Type} (fuel n : Nat) (xs : List α) (h : xs.length ≤ fuel) :
    (orderFree fuel n xs).Perm xs := by
  induction fuel generalizing n xs with
  | zero => simp [orderFree]
  | succ k ih =>
    unfold orderFree
    cases hp : pickFree n xs with
    | none =>
      cases xs with
      | nil => simp
      | cons y ys =>
        have := pickFree_isSome n (y :: ys) (by simp)
        simp [hp] at this
    | some r =>
      obtain ⟨x, rest⟩ := r
      have hperm := pickFree_perm n xs x rest hp
      have hlen := hperm.length_eq
      simp only [List.length_cons] at hlen
      exact ((ih (n + 1) rest (by omega)).cons x).trans hperm.symm

/-! ### Requests and answers -/

/-- A write of CTL_REQUEST while RESETTING changes nothing. -/
theorem State.request_resetting (s : State) (code target : Byte) (start : Start) (h : s.part = .resetting) :
    s.request code target start = s := by
  simp [State.request, h]

/-- A write of CTL_REQUEST while BUSY sets CTL_OVERRUN. -/
theorem State.request_busy (s : State) (code target : Byte) (start : Start) (hp : s.part ≠ .resetting)
    (h : s.ctl.resState = .busy) : s.request code target start = s.setCtl { s.ctl with overrun := true } := by
  simp [State.request, hp, h]

/-- An accepted write of CTL_REQUEST starts its request on the control port's accepted state. -/
theorem State.request_accepts (s : State) (code target : Byte) (start : Start) (h : s.Accepts) :
    s.request code target start = start target s.ctl.arg (s.setCtl (s.ctl.accepted code target)) := by
  simp [State.request, h.1, h.2, Control.accepted]

/-- A target in range names its panel. -/
theorem State.withPanel_targetOf (s : State) (p : PanelId) (k : PanelId → State) :
    s.withPanel (targetOf p) k = k p := by
  have h : (targetOf p).toNat = p.val := by revert p; decide
  have hlt : (targetOf p).toNat < 16 := by omega
  rw [State.withPanel, dif_pos hlt]
  congr 1
  exact Fin.ext h

/-- A target out of range ends the request with BAD_FIELD. -/
theorem State.withPanel_out (s : State) (target : Byte) (h : 16 ≤ target.toNat) (k : PanelId → State) :
    s.withPanel target k = s.complete .badField := by
  rw [State.withPanel, dif_neg (by omega)]

/-- An answer to a read that answers next: its transaction was outstanding, and the continuation ran on the state with its
place freed. -/
theorem State.answerRead_next (s t : State) (own : ReadOwner → Bool) (resp : ReadResp)
    (k : Option (List Byte) → State → State) (h : s.answerRead own resp k = .next t) :
    ∃ x, s.Outstanding own x ∧
      (resp = .error ∧ t = k none (s.readFreed x) ∨
        ∃ bs, resp = .ok bs ∧ bs.length = x.len ∧ t = k (some bs) (s.readFreed x)) := by
  unfold State.answerRead at h
  cases hx : s.port.outReads.find? fun t => own t.owner with
  | none => simp [hx] at h
  | some x =>
    refine ⟨x, hx, ?_⟩
    simp only [hx] at h
    cases resp with
    | error =>
      simp only [Host.Outcome.next.injEq] at h
      exact .inl ⟨rfl, h.symm⟩
    | ok bs =>
      by_cases hl : bs.length = x.len
      · simp only [hl, if_true, Host.Outcome.next.injEq] at h
        exact .inr ⟨bs, rfl, hl, h.symm⟩
      · simp [hl] at h

/-- The answer to an outstanding read with ERROR. -/
theorem State.answerRead_error (s : State) (own : ReadOwner → Bool) (x : ReadTxn) (h : s.Outstanding own x)
    (k : Option (List Byte) → State → State) : s.answerRead own .error k = .next (k none (s.readFreed x)) := by
  unfold State.Outstanding at h
  simp [State.answerRead, h, State.setPort, State.readFreed]

/-- The answer to an outstanding read with its bytes. -/
theorem State.answerRead_ok (s : State) (own : ReadOwner → Bool) (x : ReadTxn) (h : s.Outstanding own x)
    (bs : List Byte) (hl : bs.length = x.len) (k : Option (List Byte) → State → State) :
    s.answerRead own (.ok bs) k = .next (k (some bs) (s.readFreed x)) := by
  unfold State.Outstanding at h
  simp [State.answerRead, h, hl, State.setPort, State.readFreed]

/-- An answer to a write that answers next: the oldest outstanding write is of the kind named. -/
theorem State.answerWrite_next (s t : State) (want : WriteKind → Bool) (k : WriteTxn → State → State)
    (h : s.answerWrite want k = .next t) :
    ∃ w rest, s.port.outWrites = w :: rest ∧ want w.kind = true ∧ t = k w (s.writeFreed rest) := by
  unfold State.answerWrite at h
  cases hw : s.port.outWrites with
  | nil => simp [hw] at h
  | cons w rest =>
    simp only [hw] at h
    by_cases hk : want w.kind = true
    · simp only [hk, if_true, Host.Outcome.next.injEq] at h
      exact ⟨w, rest, rfl, hk, h.symm⟩
    · simp [hk] at h

/-- The answer to the oldest outstanding write. -/
theorem State.answerWrite_eq (s : State) (want : WriteKind → Bool) (w : WriteTxn) (rest : List WriteTxn)
    (h : s.port.outWrites = w :: rest) (hk : want w.kind = true) (k : WriteTxn → State → State) :
    s.answerWrite want k = .next (k w (s.writeFreed rest)) := by
  simp [State.answerWrite, h, hk, State.setPort, State.writeFreed]

/-! ### The lane unit -/

/-- A byte entering the shift stage leaves all but the stage, LDC and LDO. -/
@[simp] theorem Lane.enterShift_frame (ln : Lane) (lsb : Bool) (b : LaneByte) :
    (ln.enterShift lsb b).link = ln.link ∧ (ln.enterShift lsb b).sel = ln.sel ∧ (ln.enterShift lsb b).tx = ln.tx ∧
    (ln.enterShift lsb b).reply = ln.reply ∧ (ln.enterShift lsb b).lclk = ln.lclk ∧
    (ln.enterShift lsb b).stage = ln.stage ∧ (ln.enterShift lsb b).cause = ln.cause ∧
    (ln.enterShift lsb b).reserveCredit = ln.reserveCredit ∧ (ln.enterShift lsb b).lastSelect = ln.lastSelect ∧
    (ln.enterShift lsb b).committed = ln.committed ∧ (ln.enterShift lsb b).capacity = ln.capacity ∧
    (ln.enterShift lsb b).reserve = ln.reserve ∧ (ln.enterShift lsb b).rateCode = ln.rateCode ∧
    (ln.enterShift lsb b).shift = some b := by
  cases b <;> simp [Lane.enterShift]

/-- A buffer write leaves the rest of the lane. -/
@[simp] theorem Lane.setBuf_frame (ln : Lane) (b : BufId) (x : LineBuf) :
    (ln.setBuf b x).link = ln.link ∧ (ln.setBuf b x).sel = ln.sel ∧ (ln.setBuf b x).tx = ln.tx ∧
    (ln.setBuf b x).reply = ln.reply ∧ (ln.setBuf b x).lclk = ln.lclk ∧ (ln.setBuf b x).ldo = ln.ldo ∧
    (ln.setBuf b x).ldc = ln.ldc ∧ (ln.setBuf b x).shift = ln.shift ∧ (ln.setBuf b x).stage = ln.stage ∧
    (ln.setBuf b x).cause = ln.cause ∧ (ln.setBuf b x).reserveCredit = ln.reserveCredit ∧
    (ln.setBuf b x).lastSelect = ln.lastSelect ∧ (ln.setBuf b x).committed = ln.committed ∧
    (ln.setBuf b x).capacity = ln.capacity ∧ (ln.setBuf b x).reserve = ln.reserve ∧
    (ln.setBuf b x).rateCode = ln.rateCode := by
  unfold Lane.setBuf
  split <;> simp

/-- Taking a byte from the transaction changes the transaction's position and a line buffer alone. -/
theorem Lane.supply_frame (ln ln' : Lane) (b : LaneByte) (h : ln.supply = .byte b ln') :
    ln'.link = ln.link ∧ ln'.sel = ln.sel ∧ ln'.reply = ln.reply ∧ ln'.lclk = ln.lclk ∧ ln'.ldo = ln.ldo ∧
    ln'.ldc = ln.ldc ∧ ln'.shift = ln.shift ∧ ln'.stage = ln.stage ∧ ln'.cause = ln.cause ∧
    ln'.reserveCredit = ln.reserveCredit ∧ ln'.lastSelect = ln.lastSelect ∧ ln'.committed = ln.committed ∧
    ln'.capacity = ln.capacity ∧ ln'.reserve = ln.reserve ∧ ln'.rateCode = ln.rateCode ∧
    ln'.tx.map (·.panel) = ln.tx.map (·.panel) ∧ ln'.tx.map (·.select) = ln.tx.map (·.select) ∧
    ln'.tx.map (·.mode) = ln.tx.map (·.mode) ∧ ln'.tx.map (·.lsbFirst) = ln.tx.map (·.lsbFirst) ∧
    ln'.tx.map (·.dummy) = ln.tx.map (·.dummy) ∧ ln'.tx.map (·.work) = ln.tx.map (·.work) := by
  unfold Lane.supply at h
  cases htx : ln.tx with
  | none => simp [htx] at h
  | some t =>
    simp only [htx] at h
    repeat' split at h
    all_goals simp at h
    all_goals obtain ⟨_, rfl⟩ := h
    all_goals simp

/-- Filling the byte stage does no more. -/
@[simp] theorem Lane.refill_frame (ln : Lane) :
    ln.refill.link = ln.link ∧ ln.refill.sel = ln.sel ∧ ln.refill.reply = ln.reply ∧ ln.refill.lclk = ln.lclk ∧
    ln.refill.ldo = ln.ldo ∧ ln.refill.ldc = ln.ldc ∧ ln.refill.shift = ln.shift ∧ ln.refill.cause = ln.cause ∧
    ln.refill.reserveCredit = ln.reserveCredit ∧ ln.refill.lastSelect = ln.lastSelect ∧
    ln.refill.committed = ln.committed ∧ ln.refill.capacity = ln.capacity ∧ ln.refill.reserve = ln.reserve ∧
    ln.refill.rateCode = ln.rateCode ∧ ln.refill.tx.map (·.panel) = ln.tx.map (·.panel) ∧
    ln.refill.tx.map (·.select) = ln.tx.map (·.select) ∧ ln.refill.tx.map (·.mode) = ln.tx.map (·.mode) ∧
    ln.refill.tx.map (·.lsbFirst) = ln.tx.map (·.lsbFirst) ∧ ln.refill.tx.map (·.dummy) = ln.tx.map (·.dummy) ∧
    ln.refill.tx.map (·.work) = ln.tx.map (·.work) := by
  unfold Lane.refill
  split
  · simp
  · cases h : ln.supply with
    | byte b ln' =>
      have := Lane.supply_frame ln ln' b h
      simp_all
    | late => simp
    | exhausted => simp

/-- A byte moving on leaves the link state, select, reply, accounts and setup, and is in the shift stage. -/
@[simp] theorem Lane.advance_frame (ln : Lane) (lsb : Bool) (b : LaneByte) :
    (ln.advance lsb b).link = ln.link ∧ (ln.advance lsb b).sel = ln.sel ∧ (ln.advance lsb b).reply = ln.reply ∧
    (ln.advance lsb b).lclk = ln.lclk ∧ (ln.advance lsb b).cause = ln.cause ∧
    (ln.advance lsb b).reserveCredit = ln.reserveCredit ∧ (ln.advance lsb b).lastSelect = ln.lastSelect ∧
    (ln.advance lsb b).committed = ln.committed ∧ (ln.advance lsb b).capacity = ln.capacity ∧
    (ln.advance lsb b).reserve = ln.reserve ∧ (ln.advance lsb b).rateCode = ln.rateCode ∧
    (ln.advance lsb b).shift = some b ∧ (ln.advance lsb b).tx.map (·.panel) = ln.tx.map (·.panel) ∧
    (ln.advance lsb b).tx.map (·.select) = ln.tx.map (·.select) ∧
    (ln.advance lsb b).tx.map (·.lsbFirst) = ln.tx.map (·.lsbFirst) ∧
    (ln.advance lsb b).tx.map (·.mode) = ln.tx.map (·.mode) := by
  simp [Lane.advance]

/-- A byte clocked in changes the reply or the dummy bytes due. -/
@[simp] theorem Lane.capture_frame (ln : Lane) (ldi : Half) :
    (ln.capture ldi).link = ln.link ∧ (ln.capture ldi).sel = ln.sel ∧ (ln.capture ldi).lclk = ln.lclk ∧
    (ln.capture ldi).ldo = ln.ldo ∧ (ln.capture ldi).ldc = ln.ldc ∧ (ln.capture ldi).shift = ln.shift ∧
    (ln.capture ldi).stage = ln.stage ∧ (ln.capture ldi).cause = ln.cause ∧
    (ln.capture ldi).reserveCredit = ln.reserveCredit ∧ (ln.capture ldi).lastSelect = ln.lastSelect ∧
    (ln.capture ldi).committed = ln.committed ∧ (ln.capture ldi).capacity = ln.capacity ∧
    (ln.capture ldi).reserve = ln.reserve ∧ (ln.capture ldi).rateCode = ln.rateCode := by
  unfold Lane.capture
  repeat' split
  all_goals simp

/-! ### Row requests -/

/-- A row request leaves the other lanes. -/
theorem State.requestRow_lane_ne (s : State) {l m : LaneId} (h : m ≠ l) (b : BufId) :
    (s.requestRow l b).lane m = s.lane m := by
  unfold State.requestRow
  dsimp only
  repeat' split
  all_goals simp [State.setLane_lane_ne _ h]

/-- A row request changes the feed's position and a line buffer of its lane. -/
@[simp] theorem State.requestRow_lane_frame (s : State) (l : LaneId) (b : BufId) :
    ((s.requestRow l b).lane l).link = (s.lane l).link ∧ ((s.requestRow l b).lane l).sel = (s.lane l).sel ∧
    ((s.requestRow l b).lane l).shift = (s.lane l).shift ∧ ((s.requestRow l b).lane l).stage = (s.lane l).stage ∧
    ((s.requestRow l b).lane l).ldo = (s.lane l).ldo ∧ ((s.requestRow l b).lane l).ldc = (s.lane l).ldc ∧
    ((s.requestRow l b).lane l).lclk = (s.lane l).lclk ∧ ((s.requestRow l b).lane l).reply = (s.lane l).reply ∧
    ((s.requestRow l b).lane l).cause = (s.lane l).cause ∧
    ((s.requestRow l b).lane l).reserveCredit = (s.lane l).reserveCredit ∧
    ((s.requestRow l b).lane l).lastSelect = (s.lane l).lastSelect ∧
    ((s.requestRow l b).lane l).committed = (s.lane l).committed ∧
    ((s.requestRow l b).lane l).capacity = (s.lane l).capacity ∧
    ((s.requestRow l b).lane l).reserve = (s.lane l).reserve ∧
    ((s.requestRow l b).lane l).rateCode = (s.lane l).rateCode ∧
    ((s.requestRow l b).lane l).tx.map (·.panel) = (s.lane l).tx.map (·.panel) ∧
    ((s.requestRow l b).lane l).tx.map (·.select) = (s.lane l).tx.map (·.select) ∧
    ((s.requestRow l b).lane l).tx.map (·.mode) = (s.lane l).tx.map (·.mode) ∧
    ((s.requestRow l b).lane l).tx.map (·.lsbFirst) = (s.lane l).tx.map (·.lsbFirst) := by
  unfold State.requestRow
  dsimp only
  repeat' split
  all_goals simp_all

/-- Two row requests leave the other lanes. -/
theorem State.requestRows_lane_ne (s : State) {l m : LaneId} (h : m ≠ l) :
    (s.requestRows l).lane m = s.lane m := by
  simp [State.requestRows, State.requestRow_lane_ne _ h]

/-- Two row requests do no more than one does to the lane's pins, stages, accounts and setup. -/
@[simp] theorem State.requestRows_lane_frame (s : State) (l : LaneId) :
    ((s.requestRows l).lane l).link = (s.lane l).link ∧ ((s.requestRows l).lane l).sel = (s.lane l).sel ∧
    ((s.requestRows l).lane l).shift = (s.lane l).shift ∧ ((s.requestRows l).lane l).stage = (s.lane l).stage ∧
    ((s.requestRows l).lane l).ldo = (s.lane l).ldo ∧ ((s.requestRows l).lane l).ldc = (s.lane l).ldc ∧
    ((s.requestRows l).lane l).lclk = (s.lane l).lclk ∧ ((s.requestRows l).lane l).reply = (s.lane l).reply ∧
    ((s.requestRows l).lane l).cause = (s.lane l).cause ∧
    ((s.requestRows l).lane l).reserveCredit = (s.lane l).reserveCredit ∧
    ((s.requestRows l).lane l).lastSelect = (s.lane l).lastSelect ∧
    ((s.requestRows l).lane l).committed = (s.lane l).committed ∧
    ((s.requestRows l).lane l).capacity = (s.lane l).capacity ∧
    ((s.requestRows l).lane l).reserve = (s.lane l).reserve ∧
    ((s.requestRows l).lane l).rateCode = (s.lane l).rateCode ∧
    ((s.requestRows l).lane l).tx.map (·.panel) = (s.lane l).tx.map (·.panel) ∧
    ((s.requestRows l).lane l).tx.map (·.select) = (s.lane l).tx.map (·.select) ∧
    ((s.requestRows l).lane l).tx.map (·.mode) = (s.lane l).tx.map (·.mode) ∧
    ((s.requestRows l).lane l).tx.map (·.lsbFirst) = (s.lane l).tx.map (·.lsbFirst) := by
  simp [State.requestRows]

/-! ### Tear channels and the memory port -/

/-- With no TE event to meet, a boundary is what R99 and R102 give alone. -/
theorem Channel.boundary_of_noMeeting (c : Channel) (d : Descriptor) (awake : Bool) (h : c.meeting = .none) :
    c.boundary d awake = { c with
      hold := if c.state = .opened then c.hold - 1 else c.hold
      watch := if c.armed && d.policy = .blank && awake then min (c.watch + 1) 255 else c.watch } := by
  simp [Channel.boundary, Channel.watchCounts, Channel.meetingAfter, h]

/-- A boundary meets the TE event that waited for it. -/
theorem Channel.boundary_meeting (c : Channel) (d : Descriptor) (awake : Bool) :
    (c.boundary d awake).meeting = .none ∨ (c.boundary d awake).meeting = .stands := by
  unfold Channel.boundary Channel.meetingAfter
  dsimp only
  repeat' split
  all_goals simp

/-- The watch counts at a boundary that no TE event waits for. -/
theorem Channel.watchCounts_iff (c : Channel) (d : Descriptor) (awake : Bool) :
    c.watchCounts d awake = true ↔
      c.armed = true ∧ d.policy = .blank ∧ awake = true ∧ (c.meeting = .none ∨ c.meeting = .stands) := by
  unfold Channel.watchCounts
  cases h : c.meeting <;> simp [and_assoc]

/-- Closing a window leaves what the channel has to meet. -/
@[simp] theorem Channel.close_meeting (c : Channel) : c.close.meeting = c.meeting := by
  unfold Channel.close
  split <;> rfl

/-- The port is busy exactly while it holds something. -/
theorem Port.busy_iff (q : Port) : q.busy = true ↔ q.Holds := by
  have lanes : ∀ l : LaneId, l ∈ allLanes := by decide
  have pixels : (allLanes.any fun l => !(q.pixQ[l]).isEmpty) = true ↔ ∃ l : LaneId, q.pixQ[l] ≠ [] := by
    simp [lanes]
  simp only [Port.busy, Port.Holds, Bool.or_eq_true, pixels]
  simp only [Bool.not_eq_true', List.isEmpty_eq_false_iff, or_assoc]
  rw [← or_assoc, ← or_assoc, ← or_assoc, ← or_assoc, or_comm]
  simp only [or_assoc]

/-- The panel that a write is for, in both its forms. -/
theorem WriteKind.isFor_eq (k : WriteKind) (p : PanelId) : k.isFor p = (k.panel? == some p) := by
  cases k <;> simp only [WriteKind.isFor, WriteKind.panel?, Option.some_beq_some] <;> rfl

/-- A chain read is held exactly while a write for its panel is queued or outstanding. -/
theorem Port.heldRead_eq_false_iff (q : Port) (x : ReadTxn) : q.heldRead x = false ↔ notHeld q x := by
  have writes : ∀ p : PanelId, q.writesFor p = false ↔
      (∀ w ∈ q.writeQ, w.kind.isFor p = false) ∧ ∀ w ∈ q.outWrites, w.kind.isFor p = false := by
    intro p
    simp only [Port.writesFor, ← WriteKind.isFor_eq, Port.writes, List.any_append, Bool.or_eq_false_iff,
      List.any_eq_false, Bool.not_eq_true]
  unfold Port.heldRead notHeld
  cases h : x.owner <;> simp [writes]

/-! ### Discarded pixel answers -/

/-- A discarded pixel answer leaves the lane as it is, or frees the line buffer that a cut left reserved. -/
theorem State.pixelDiscarded_eq (s : State) (l : LaneId) (b : BufId) :
    s.pixelDiscarded l b = s ∨
    (s.lane l).buf b = .reserved ∧ s.fetchOver l b = true ∧
      s.pixelDiscarded l b = s.modLane l fun ln => ln.setBuf b .free := by
  unfold State.pixelDiscarded
  split
  · by_cases h : s.fetchOver l b = true
    · right
      simp [*]
    · left
      simp [h]
  all_goals exact Or.inl rfl

/-! ### Polls and faults of one panel -/

/-- A link poll of one panel leaves the records of the others. -/
theorem State.issuePoll_panel_ne (s : State) {p q : PanelId} (h : q ≠ p) : (s.issuePoll p).panel q = s.panel q := by
  unfold State.issuePoll
  split <;> simp [State.modPanel_panel_ne _ h]

/-- So does a poll or a mark. -/
theorem State.pollOrMark_panel_ne (s : State) {p q : PanelId} (h : q ≠ p) :
    (s.pollOrMark p).panel q = s.panel q := by
  unfold State.pollOrMark
  split <;> simp [State.modPanel_panel_ne _ h, State.issuePoll_panel_ne _ h]

/-- So does the end of an access. -/
theorem State.accessEnded_panel_ne (s : State) {p q : PanelId} (h : q ≠ p) :
    (s.accessEnded p).panel q = s.panel q := by
  unfold State.accessEnded
  dsimp only
  split <;> simp [State.pollOrMark_panel_ne _ h, State.setPanel_panel_ne _ h]

/-- The loss of a member keeps every view of a panel record that a break keeps. -/
theorem State.memberLost_panel_keeps {β : Type} (view : Panel → β) (q : PanelId)
    (hEnd : ∀ (s : State) (p : PanelId) (f : Final) (o : Bool), view ((s.endHead p f o).panel q) = view (s.panel q))
    (hGate : ∀ r : Panel, view { r with gateAt := none } = view r) (s : State) (p : PanelId) (own : PanelId → Bool) :
    view ((s.memberLost p own).panel q) = view (s.panel q) := by
  have step : ∀ (sel : Gate → Bool) (s : State) (g : GateId),
      view ((if sel (s.gate g) then s.breakGate g .memberLost own else s).panel q) = view (s.panel q) := by
    intro sel s g
    split
    · exact State.breakGate_panel_keeps view q hEnd hGate s g _ own
    · rfl
  unfold State.memberLost State.breakGates
  generalize allGates = gs
  induction gs generalizing s with
  | nil => rfl
  | cons g rest ih =>
    rw [List.foldl_cons, ih]
    exact step (fun e => e.armed && hasPanel e.mask p) s g

/-- The loss of a member leaves the state, tear channel, descriptor, fault code, cursor, access and accounts of every
panel. -/
@[simp] theorem State.memberLost_panel_frame (s : State) (p : PanelId) (own : PanelId → Bool) (q : PanelId) :
    ((s.memberLost p own).panel q).state = (s.panel q).state ∧
    ((s.memberLost p own).panel q).desc = (s.panel q).desc ∧
    ((s.memberLost p own).panel q).unbindPending = (s.panel q).unbindPending ∧
    ((s.memberLost p own).panel q).parkWait = (s.panel q).parkWait ∧
    ((s.memberLost p own).panel q).cursor = (s.panel q).cursor ∧
    ((s.memberLost p own).panel q).access = (s.panel q).access ∧
    ((s.memberLost p own).panel q).fetched = (s.panel q).fetched ∧
    ((s.memberLost p own).panel q).repoll = (s.panel q).repoll ∧
    ((s.memberLost p own).panel q).resumePoll = (s.panel q).resumePoll ∧
    ((s.memberLost p own).panel q).display = (s.panel q).display ∧
    ((s.memberLost p own).panel q).settle = (s.panel q).settle ∧
    ((s.memberLost p own).panel q).scroll = (s.panel q).scroll ∧
    ((s.memberLost p own).panel q).credit = (s.panel q).credit ∧
    ((s.memberLost p own).panel q).tear = (s.panel q).tear ∧
    ((s.memberLost p own).panel q).fault = (s.panel q).fault :=
  ⟨State.memberLost_panel_keeps (·.state) q (by simp) (by simp) s p own,
    State.memberLost_panel_keeps (·.desc) q (by simp) (by simp) s p own,
    State.memberLost_panel_keeps (·.unbindPending) q (by simp) (by simp) s p own,
    State.memberLost_panel_keeps (·.parkWait) q (by simp) (by simp) s p own,
    State.memberLost_panel_keeps (·.cursor) q (by simp) (by simp) s p own,
    State.memberLost_panel_keeps (·.access) q (by simp) (by simp) s p own,
    State.memberLost_panel_keeps (·.fetched) q (by simp) (by simp) s p own,
    State.memberLost_panel_keeps (·.repoll) q (by simp) (by simp) s p own,
    State.memberLost_panel_keeps (·.resumePoll) q (by simp) (by simp) s p own,
    State.memberLost_panel_keeps (·.display) q (by simp) (by simp) s p own,
    State.memberLost_panel_keeps (·.settle) q (by simp) (by simp) s p own,
    State.memberLost_panel_keeps (·.scroll) q (by simp) (by simp) s p own,
    State.memberLost_panel_keeps (·.credit) q (by simp) (by simp) s p own,
    State.memberLost_panel_keeps (·.tear) q (by simp) (by simp) s p own,
    State.memberLost_panel_keeps (·.fault) q (by simp) (by simp) s p own⟩

end Sys2Proof.Machine
end

