-- ==== Sys2Proof/Laws/Breaks.lean ====
section
/-! SUPPORT. What a break of gate entries does when each listed panel's head is its arrived GATE ticket, said once: the
panels, the writes and the entries after one break and after the breaks of several entries (R144, R149). -/
namespace Sys2Proof.Machine

/-- A listed panel's part of a break: its head is written GATE_BROKEN and its gate arrival field cleared (R149). -/
def State.breakMember (reason : Reason) (own : PanelId → Bool) (s : State) (q : PanelId) : State :=
  (s.endHead q (gateBroken reason) (own q)).modPanel q fun r => { r with gateAt := none }

/-- A panel record without its head ticket and arrival. -/
def Panel.withoutArrival (r : Panel) : Panel := { r with window := r.window.drop 1, head := .clear, gateAt := none }

/-- One listed panel's part: its record, the others, its write, and nothing else. -/
theorem State.breakMember_spec (reason : Reason) (own : PanelId → Bool) (s : State) (q : PanelId) (e : Entry)
    (h : (s.panel q).window.head? = some e) :
    (s.breakMember reason own q).panel q = (s.panel q).withoutArrival ∧
    (∀ p : PanelId, p ≠ q → (s.breakMember reason own q).panel p = s.panel p) ∧
    (s.breakMember reason own q).port =
      { s.port with writeQ := s.port.writeQ ++ [finalWrite q (own q) (e, gateBroken reason)] } := by
  obtain ⟨rest, hw⟩ : ∃ rest, (s.panel q).window = e :: rest := by
    cases hw : (s.panel q).window with
    | nil => simp [hw] at h
    | cons a rest => exact ⟨rest, by simpa [hw] using h⟩
  refine ⟨?_, fun p hp => ?_, ?_⟩
  · simp [State.breakMember, State.modPanel_panel_same, State.endHead_panel_same, Panel.withoutArrival, hw]
  · simp [State.breakMember, State.modPanel_panel_ne _ hp, State.endHead_panel_ne _ hp]
  · simp [State.breakMember, State.endHead_port, hw]

/-- The parts of several listed panels, in their order. -/
theorem State.breakMembers_spec (reason : Reason) (own : PanelId → Bool) (front : PanelId → Entry) (qs : List PanelId)
    (s : State) (hn : qs.Nodup) (hf : ∀ q ∈ qs, (s.panel q).window.head? = some (front q)) :
    (∀ p : PanelId, (qs.foldl (State.breakMember reason own) s).panel p =
      if p ∈ qs then (s.panel p).withoutArrival else s.panel p) ∧
    (qs.foldl (State.breakMember reason own) s).port = { s.port with
      writeQ := s.port.writeQ ++ qs.map fun q => finalWrite q (own q) (front q, gateBroken reason) } := by
  induction qs generalizing s with
  | nil => simp
  | cons q rest ih =>
    obtain ⟨hq, hrest⟩ := List.nodup_cons.mp hn
    obtain ⟨hSame, hOther, hPort⟩ := State.breakMember_spec reason own s q (front q) (hf q (by simp))
    obtain ⟨iPanels, iPort⟩ := ih (s.breakMember reason own q) hrest fun p hp => by
      rw [hOther p (ne_of_mem_of_not_mem hp hq)]
      exact hf p (by simp [hp])
    rw [List.foldl_cons]
    refine ⟨fun p => ?_, ?_⟩
    · rw [iPanels]
      by_cases hp : p = q
      · subst hp
        simp [hq, hSame]
      · simp [hp, hOther p hp]
    · rw [iPort, hPort]
      simp

/-- No listed panel's part touches a gate entry. -/
theorem State.breakMembers_gates (reason : Reason) (own : PanelId → Bool) (qs : List PanelId) (s : State) :
    (qs.foldl (State.breakMember reason own) s).gates = s.gates := by
  induction qs generalizing s with
  | nil => rfl
  | cons q rest ih =>
    rw [List.foldl_cons, ih]
    simp [State.breakMember]

/-- A break is the parts of the listed panels, and then the entry is FREE. -/
theorem State.breakGate_eq (s : State) (g : GateId) (reason : Reason) (own : PanelId → Bool) :
    s.breakGate g reason own = ((s.gate g).list.foldl (State.breakMember reason own) s).setGate g .free := rfl

/-- A break leaves every other entry. -/
theorem State.breakGate_gate_ne (s : State) {g k : GateId} (h : k ≠ g) (reason : Reason) (own : PanelId → Bool) :
    (s.breakGate g reason own).gate k = s.gate k := by
  rw [State.breakGate_eq, State.setGate_gate_ne _ h]
  exact congrArg (fun gs : Vector Gate 8 => gs[k]) (State.breakMembers_gates reason own _ s)

/-- The breaks of several entries, one after the other. -/
theorem State.breakEach_spec (reason : Reason) (own : PanelId → Bool) (front : PanelId → Entry) (gs : List GateId)
    (s : State) (hg : gs.Nodup) (h : s.Fronts gs front) :
    let t := gs.foldl (fun s g => s.breakGate g reason own) s
    (∀ q : PanelId, t.panel q = s.broken gs q) ∧
    t.port = { s.port with writeQ := s.port.writeQ ++ s.brokenWrites gs front reason own } ∧
    ∀ g : GateId, t.gate g = s.gateAfter gs g := by
  induction gs generalizing s with
  | nil => simp [State.broken, State.brokenWrites, State.listed, State.gateAfter]
  | cons g rest ih =>
    obtain ⟨hn, hf⟩ := h
    obtain ⟨hg₁, hg₂⟩ := List.nodup_cons.mp hg
    have hSplit : s.listed (g :: rest) = (s.gate g).list ++ s.listed rest := rfl
    rw [hSplit] at hn hf
    obtain ⟨hn₁, hn₂, hDisj⟩ := List.nodup_append.mp hn
    obtain ⟨mPanels, mPort⟩ := State.breakMembers_spec reason own front _ s hn₁ fun q hq => hf q (by simp [hq])
    have bPanel : ∀ q : PanelId, (s.breakGate g reason own).panel q =
        if q ∈ (s.gate g).list then (s.panel q).withoutArrival else s.panel q := fun q => by
      rw [State.breakGate_eq, State.setGate_panel, mPanels]
    have bPort : (s.breakGate g reason own).port = { s.port with
        writeQ := s.port.writeQ ++
          (s.gate g).list.map fun q => finalWrite q (own q) (front q, gateBroken reason) } := by
      rw [State.breakGate_eq, State.setGate_port, mPort]
    have bListed : (s.breakGate g reason own).listed rest = s.listed rest := by
      unfold State.listed
      rw [List.flatMap_def, List.flatMap_def]
      exact congrArg _ (List.map_congr_left fun k hk => by
        rw [State.breakGate_gate_ne s (ne_of_mem_of_not_mem hk hg₁)])
    have notListed : ∀ q ∈ s.listed rest, q ∉ (s.gate g).list := fun q hq hq' => hDisj q hq' q hq rfl
    obtain ⟨iPanels, iPort, iGates⟩ := ih (s.breakGate g reason own) hg₂ ⟨by rwa [bListed], fun q hq => by
      rw [bListed] at hq
      rw [bPanel, if_neg (notListed q hq)]
      exact hf q (by simp [hq])⟩
    rw [List.foldl_cons]
    refine ⟨fun q => ?_, ?_, fun k => ?_⟩
    · rw [iPanels]
      simp only [State.broken, bListed, hSplit, List.mem_append, bPanel]
      by_cases h₁ : q ∈ (s.gate g).list
      · have h₂ : q ∉ s.listed rest := fun h => notListed q h h₁
        simp [h₁, h₂, Panel.withoutArrival]
      · simp [h₁]
    · rw [iPort, bPort]
      simp [State.brokenWrites, bListed, hSplit]
    · rw [iGates]
      simp only [State.gateAfter, List.mem_cons]
      by_cases hk : k = g
      · subst hk
        simp [hg₁]
      · simp [hk, State.breakGate_gate_ne s hk]

/-- The breaks that an event chooses entry by entry are the breaks of the entries it chooses in the state it finds, since a
break changes no other entry. -/
theorem State.breakChosen_eq (sel : Gate → Bool) (reason : Reason) (own : PanelId → Bool) (gs : List GateId) (s : State)
    (hg : gs.Nodup) :
    gs.foldl (fun s g => if sel (s.gate g) then s.breakGate g reason own else s) s =
      (gs.filter fun g => sel (s.gate g)).foldl (fun s g => s.breakGate g reason own) s := by
  induction gs generalizing s with
  | nil => rfl
  | cons g rest ih =>
    obtain ⟨hg₁, hg₂⟩ := List.nodup_cons.mp hg
    rw [List.foldl_cons, List.filter_cons]
    by_cases hs : sel (s.gate g) = true
    · rw [if_pos hs, if_pos hs, List.foldl_cons, ih _ hg₂]
      congr 1
      exact List.filter_congr fun k hk => by
        rw [State.breakGate_gate_ne s (ne_of_mem_of_not_mem hk hg₁)]
    · rw [if_neg hs, if_neg hs]
      exact ih s hg₂

/-- Every entry an event breaks, in ascending order: panels, writes and entries (R149). -/
theorem State.breakGates_spec (s : State) (sel : Gate → Bool) (reason : Reason) (own : PanelId → Bool)
    (front : PanelId → Entry) (h : s.Fronts (allGates.filter fun g => sel (s.gate g)) front) :
    let gs := allGates.filter fun g => sel (s.gate g)
    let t := s.breakGates sel reason own
    (∀ q : PanelId, t.panel q = s.broken gs q) ∧
    t.port = { s.port with writeQ := s.port.writeQ ++ s.brokenWrites gs front reason own } ∧
    ∀ g : GateId, t.gate g = s.gateAfter gs g := by
  have hAll : allGates.Nodup := by decide
  have := State.breakEach_spec reason own front _ s (hAll.filter fun g => sel (s.gate g)) h
  rwa [← State.breakChosen_eq sel reason own allGates s hAll] at this

/-- The loss of a member breaks the ARMED entries whose mask holds it (R151). -/
theorem State.memberLost_spec (s : State) (p : PanelId) (own : PanelId → Bool) (front : PanelId → Entry)
    (h : s.Fronts (s.lostGates p) front) :
    (∀ q : PanelId, (s.memberLost p own).panel q = s.broken (s.lostGates p) q) ∧
    (s.memberLost p own).port =
      { s.port with writeQ := s.port.writeQ ++ s.brokenWrites (s.lostGates p) front .memberLost own } ∧
    ∀ g : GateId, (s.memberLost p own).gate g = s.gateAfter (s.lostGates p) g :=
  State.breakGates_spec s (fun e => e.armed && hasPanel e.mask p) .memberLost own front h

end Sys2Proof.Machine
end

