-- ==== Sys2Proof/Tests/Slice0.lean ====
section
/-! SUPPORT. Tests: ill-formed commands that the check refuses, single steps on small states, and for every statement with
hypotheses a state and operands that meet them, clause by clause at the ends of its ranges. -/
namespace Sys2Proof.Tests
open Sys2Proof Sys2Proof.Machine

/-! ### Small states -/

/-- The step is taken, and the state after it passes a test. -/
def gives (o : Host.Outcome State Fault Refusal) (ok : State → Bool) : Bool :=
  match o with
  | .next t => ok t
  | .fault _ => false
  | .refused _ => false

/-- A profile with every code. -/
def prof : Profile := { Profile.reset with
  valid := true, k := 1, columnCode := 0x2A, rowCode := 0x2B, memoryCode := 0x2C, continueCode := some 0x3C
  scrollCode := some 0x37, sleepCode := some 0x10, wakeCode := some 0x11, readDummy := 1, sleepSettle := 2 }

/-- A 4 by 4 panel on lane 0 under policy BLANK. -/
def desc : Descriptor := { Descriptor.zero with
  width := 4, height := 4, vsa := 4, budget := 100, allowance := 100, policy := .blank, skip := 1, hold := 2
  teWatch := 3, fallback := .free, chainStart := 0x1000 }

/-- The panel as BIND leaves it. -/
def pan : Panel := .bindTo desc false

/-- Lane 0 set up, with the panel's load committed. -/
def laneUp : Lane := { Lane.reset with capacity := 1000, reserve := 2, reserveCredit := 250, committed := 100 }

/-- A RUNNING part with a record in slot 0. -/
def on (r : Panel) : State :=
  ((((State.reset.setPart .running).setTimer { count := 0, period := some (8, 0) }).setPanel 0 r).setLane 0
    laneUp).setProfile 0 prof

/-- The same with CTL_ARG. -/
def withArg (s : State) (a : Word) : State := s.setCtl { s.ctl with arg := a }

/-- The same with a request in progress. -/
def withOp (s : State) (op : ReqOp) : State := s.setCtl { s.ctl with op := op, resState := .busy }

/-- The same with reads and writes outstanding. -/
def awaiting (s : State) (rs : List ReadTxn) (ws : List WriteTxn) : State :=
  s.setPort { s.port with outReads := rs, outWrites := ws }

/-- A ticket at address 1000H in a window. -/
def ent (b : Body) : Entry where
  ticket := { addr := 0x1000, body := b, notify := true, keep := false, align := false, latest := none, tag := 7 }
  due := false

/-- The panel with one ticket. -/
def holding (b : Body) (started : Bool) : Panel :=
  { pan with window := [ent b], head := { Head.clear with started := started } }

/-- The whole panel as a rectangle. -/
def full : Rect := { x := 0, y := 0, w := 4, h := 4 }

/-- A FILL and a DRAW of the whole panel. -/
def fillBody : Body := .fill full { r := 255, g := 0, b := 0 }
def drawBody : Body := .draw full 0x8000 8 .s16

/-- A transaction of panel 0 with nothing left to send but its feed. -/
def txOf (work : Work) (feed : Feed) : Tx where
  panel := 0
  select := 0
  mode := 0
  lsbFirst := false
  rateCode := 0
  work := work
  units := []
  feed := feed
  dummy := 0

/-- Lane 0 serving a transaction of panel 0. -/
def serving (r : Panel) (link : LinkState) (t : Tx) : State :=
  (on r).setLane 0 { laneUp with link := link, tx := some t, sel := some 0 }

/-- The rows of a DRAW strip, the first of them being fetched. -/
def rowsFeed : DrawFeed where
  source := 0x8000
  stride := 8
  src := .s16
  dst := .p16
  width := 4
  firstRow := 0
  rows := 2
  next := 1
  cur := 0
  pos := 0

/-- A lane whose strip awaits the first row. -/
def fetchingRow (link : LinkState) (stage : Option LaneByte) : State :=
  awaiting ((on (holding drawBody true)).setLane 0 { laneUp with
    link := link, tx := some (txOf (.strip 2) (.draw rowsFeed)), sel := some 0, stage := stage
    bufA := .fetching 0 8 [] false }) [{ owner := .pixel 0 0 0, addr := 0x8000, len := 8 }] []

/-- A gate entry that panel 0 has armed for panels 0 and 1. -/
def armedGate : Gate := { armed := true, mask := 3, list := [0], timeout := some 1, align := true }

/-- Panel 0 arrived at gate 0, panel 1 READY. -/
def gated : State :=
  ((on { holding (.gate 0 3 1) true with gateAt := some 0 }).setPanel 1 pan).setGate 0 armedGate

/-- The bytes of a posted FENCE ticket whose link word begins with b. -/
def fenceBytes (b : Byte) : List Byte := [b, 0, 0, 0, 8] ++ List.replicate 59 0

/-! ### The check refuses ill-formed commands -/

theorem test_illFormed_badRequest : (Instr.badRequest 0x16 0).wellFormed = false := by decide
theorem test_illFormed_ticketRead : (Instr.ticketReadAnswered 0 (.ok (List.replicate 63 0))).wellFormed = false := by
  decide
theorem test_illFormed_linkPoll : (Instr.linkPollAnswered 0 (.ok [0, 0, 0])).wellFormed = false := by decide
theorem test_illFormed_pixelBytes : (Instr.pixelFetchAnswered 0 0 0 (.ok [])).wellFormed = false := by decide
theorem test_illFormed_pixelLong :
    (Instr.pixelFetchAnswered 0 0 0 (.ok (List.replicate 65 0))).wellFormed = false := by decide
theorem test_illFormed_pixelOffset : (Instr.pixelFetchAnswered 0 0 2560 .error).wellFormed = false := by decide
theorem test_illFormed_profile : (Instr.profileReadAnswered 16 .error).wellFormed = false := by decide
theorem test_illFormed_lane : (Instr.laneRecordReadAnswered 4 .error).wellFormed = false := by decide
theorem test_illFormed_tolerance : (Instr.toleranceReadAnswered 20 .error).wellFormed = false := by decide
theorem test_illFormed_descriptor : (Instr.descriptorReadAnswered 32 .error).wellFormed = false := by decide
theorem test_wellFormed_some : (Instr.badRequest 0x17 0).wellFormed = true ∧
    (Instr.ticketReadAnswered 0 (.ok (fenceBytes 0))).wellFormed = true ∧
    (Instr.linkPollAnswered 0 (.ok [0, 0, 0, 0])).wellFormed = true ∧
    (Instr.pixelFetchAnswered 0 0 2559 (.ok [0])).wellFormed = true := by decide

/-! ### Single steps -/

theorem test_unknownWord_spellsNothing : decodeTableWord 32 5 = none ∧ State.reset.withFetchWord 32 5 = State.reset := by
  decide

theorem test_bind_reads32Bytes : gives (exec (.bind 1) (withArg (on pan) 0x2030)) (fun t =>
    t.port.ctlQ = [{ owner := .control (.descriptor 1) 0, addr := 0x2030, len := 16 },
      { owner := .control (.descriptor 1) 16, addr := 0x2040, len := 16 }]) = true := by decide

theorem test_ticketFetch_reads64Bytes : gives (exec (.ticketFetch 0) (on pan)) (fun t =>
    (t.panel 0).access = .fetching && t.port.chainQ == [{ owner := .ticket 0, addr := 0x1000, len := 64 }]) = true := by
  decide

theorem test_fence_isDoneAtTheTake : gives (exec (.takenWriteAnswered .ok) (awaiting
      (on { pan with access := .fetching, fetched := some ((ent .fence).ticket, 0x1040) }) []
      [{ kind := .taken 0, addr := 0x1008, data := [1, 0, 0, 0] }])) (fun t =>
    (t.panel 0).window = [] && (t.panel 0).cursor = .nextKnown 0x1040 &&
      t.port.writeQ == [{ kind := .status 0 .done true false, addr := 0x1008, data := [2, 0, 0, 0] }]) = true := by
  decide

theorem test_grant_ofAStrip : gives (exec (.laneGrant 0) (on (holding fillBody false))) (fun t =>
    (t.lane 0).link = .shifting && (t.lane 0).shift = some (.cmd 0x2A) && (t.lane 0).stage = some (.data 0) &&
      (t.lane 0).ldc = false && (t.panel 0).credit = 100 - (7 + 4 * 8)) = true := by decide

theorem test_grant_ofASend : gives (exec (.laneGrant 0) (on (holding (.send 0x55 [1, 2]) false))) (fun t =>
    (t.lane 0).reserveCredit = 247 && (t.panel 0).credit = 100 && (t.panel 0).head.started) = true := by decide

theorem test_lastByte_endsTheTransaction : gives (exec (.byteTimeEnd 0 0) (serving (holding (.send 1 []) true) .shifting
      (txOf .send .none))) (fun t => (t.lane 0).link = .ending && (t.lane 0).sel = none) = true := by decide

theorem test_completion_ofASend : gives (exec (.transactionCompletion 0) (serving (holding (.send 1 []) true) .ending
      (txOf .send .none))) (fun t => (t.lane 0).link = .idle && (t.panel 0).window = [] &&
    t.port.writeQ == [{ kind := .status 0 .done true false, addr := 0x1008, data := [2, 0, 0, 0] }]) = true := by decide

theorem test_gap_ends : gives (exec (.gapAfterAbortEnd 0) (serving pan .gapAfterAbort (txOf .send .none)))
    (fun t => (t.lane 0).link = .idle) = true := by decide

theorem test_row_isConvertedAndSent : gives (exec (.pixelFetchAnswered 0 0 0 (.ok [1, 2, 3, 4, 5, 6, 7, 8]))
      (fetchingRow .stalled none)) (fun t => (t.lane 0).link = .shifting && (t.lane 0).shift = some (.data 2) &&
    (t.lane 0).stage = some (.data 1)) = true := by decide

theorem test_edge_opensTheWindow : gives (exec (.qualifiedEdge 0 { level := true, together := false }) (on pan)) (fun t =>
    (t.panel 0).tear.state = .opened && (t.panel 0).tear.budget = 100 && (t.panel 0).tear.hold = 2) = true := by decide

/-- A channel whose open window ends at the boundary that the period in progress is about to reach, with a skip counter. -/
def lastWindow (skipCtr : Nat) : State :=
  (on { pan with desc := { desc with hold := 1 }, tear := { pan.tear with
    state := .opened, budget := 5, hold := 1, skip := 2, skipCtr := skipCtr, estimate := 9, base := true
    watch := 2 } }).setTimer { count := 7, period := some (8, 7) }

/-- Run commands one after the other. -/
def runs : List Instr → State → Host.Outcome State Fault Refusal
  | [], s => .next s
  | c :: rest, s =>
    match exec c s with
    | .next t => runs rest t
    | .fault f => .fault f
    | .refused r => .refused r

theorem test_teEventWithTheBoundary_opens : ∀ first : Bool, gives (runs (if first
      then [.qualifiedEdge 0 { level := true, together := true }, .periodBoundary, .holdExpiry 0]
      else [.periodBoundary, .holdExpiry 0, .qualifiedEdge 0 { level := true, together := false }]) (lastWindow 0)) (fun t =>
    let c := (t.panel 0).tear
    c.state = .opened && c.budget = 100 && c.hold = (if first then 0 else 1) && c.skipCtr = 1 && c.watch = 0 &&
      c.estimate = 8) = true := by decide

theorem test_teEventWithTheBoundary_doesNotOpen : ∀ first : Bool, gives (runs (if first
      then [.qualifiedEdge 0 { level := true, together := true }, .periodBoundary, .holdExpiry 0]
      else [.periodBoundary, .holdExpiry 0, .qualifiedEdge 0 { level := true, together := false }]) (lastWindow 1)) (fun t =>
    let c := (t.panel 0).tear
    c.state = .closed && c.budget = 0 && c.hold = 0 && c.skipCtr = 0 && c.watch = 0 && c.estimate = 8) = true := by decide

/-- A state in which the boundary that is about to be reached would bring the watch to its TE watch value. -/
def lastWatch (teWatch : Nat) : State :=
  (on { pan with desc := { desc with teWatch := teWatch }, tear := { pan.tear with watch := teWatch - 1 } }).setTimer
    { count := 7, period := some (8, 7) }

theorem test_teEventWithTheWatchsLastBoundary : ∀ first : Bool, ∀ w ∈ [1, 2, 255], gives (runs (if first
      then [.qualifiedEdge 0 { level := true, together := true }, .periodBoundary, .teLost 0]
      else [.periodBoundary, .teLost 0, .qualifiedEdge 0 { level := true, together := false }]) (lastWatch w)) (fun t =>
    (t.panel 0).tear.state = .opened && (t.panel 0).fault = (if first then .none else .teLost) &&
      hasPanel t.ctl.fault 0 = !first) = true := by decide

/-- The commands that end a PARK whose wait runs out together with its transaction's completion, the boundary taken first. -/
theorem test_boundaryWithTheCompletion_cuts : gives (runs [.forcedPark { panel := 0, together := true },
      .gapAfterAbortEnd 0] (withOp (serving { holding fillBody true with state := .parking, parkWait := 0 } .ending
        (txOf (.strip 2) .none)) (.parkWait 0))) (fun t =>
    (t.panel 0).state = .parked && t.ctl.op == .parkWrite 0 && (t.lane 0).link = .idle && (t.panel 0).window = [] &&
      t.port.writeQ == [{ kind := .status 0 .aborted true true, addr := 0x1008, data := [7, 9, 2, 0] }]) = true := by decide

theorem test_completionWithTheBoundary_completes : gives (runs [.transactionCompletion 0,
      .forcedPark { panel := 0, together := true }] (withOp (serving { holding fillBody true with
        state := .parking, parkWait := 0 } .ending (txOf (.strip 2) .none)) (.parkWait 0))) (fun t =>
    (t.panel 0).state = .parked && t.ctl.op == .none && t.ctl.result == .ok && (t.panel 0).head.rows = 2) = true := by
  decide

theorem test_boundary_refillsAndCounts : gives (exec .periodBoundary ((on { pan with credit := 3 }).setTimer
      { count := 0, period := some (8, 7) })) (fun t =>
    t.timer.count = 1 && t.timer.period = some (8, 0) && (t.panel 0).credit = 100 &&
      (t.lane 0).reserveCredit = 250) = true := by decide

theorem test_boundary_waitsForThePeriodsEnd : exec .periodBoundary (on pan) = .next (on pan) := rfl

theorem test_clockedInByte_takesTheCaptureEdges : gives (exec (.byteTimeEnd 0 0xAAA0) ((serving (holding (.read 4 1) true)
      .shifting (txOf .read .none)).modLane 0 fun ln => { ln with shift := some .clockIn })) (fun t =>
    (t.lane 0).reply = [0xFC]) = true := by decide

theorem test_errorBeforeTheReset_isDiscarded : gives (exec (.pixelFetchAnswered 0 0 0 (.ok [1, 2, 3, 4, 5, 6, 7, 8]))
      (((fetchingRow .aborting none).modLane 0 fun ln => { ln with bufA := .fetching 0 16 [] true }).setPart .resetting))
      (fun t => t.ctl.fault = 0 && (t.panel 0).state = .ready && t.port.writeQ = []) = true := by decide

theorem test_grant_ofADraw_requestsTwoRows : gives (exec (.laneGrant 0) (on (holding drawBody false))) (fun t =>
    t.port.pixQ[(0 : LaneId)] = [{ owner := .pixel 0 0 0, addr := 0x8000, len := 8 },
      { owner := .pixel 0 1 0, addr := 0x8008, len := 8 }]) = true := by decide

theorem test_gate_releases : gives (exec (.takenWriteAnswered .ok) (awaiting
      (gated.setPanel 1 { pan with access := .fetching, fetched := some ((ent (.gate 0 3 1)).ticket, 0x1040) }) []
      [{ kind := .taken 1, addr := 0x1008, data := [1, 0, 0, 0] }])) (fun t => t.gate 0 = Gate.free &&
    t.port.writeQ.map (·.kind) == [.status 0 .done true false, .status 1 .done true false]) = true := by decide

theorem test_gateTimeout_breaks : gives (exec .gateTimeout (gated.setGate 0 { armedGate with timeout := some 0 }))
    (fun t => t.gate 0 = Gate.free && t.port.writeQ.map (·.data) == [[8, 11, 0, 0]]) = true := by decide

theorem test_portSends_theOldestWrite : gives (exec .memoryRequestSent ((on pan).setPort { Port.reset with
      writeQ := [{ kind := .report, addr := 0x40, data := [] }] })) (fun t => t.port.outWrites.length = 1) = true := by
  decide

theorem test_softReset_andDrain : gives (exec (.softReset 4 false) (on pan)) (fun t => t.part = .resetting &&
    gives (exec .drainComplete t) (fun u => u.part = .stopped && u.panel 0 = Panel.reset false)) = true := by decide

theorem test_reply_ofARead : gives (exec (.transactionCompletion 0) ((serving (holding (.read 4 1) true) .ending
      (txOf .read .none)).modLane 0 fun ln => { ln with reply := [0xAB] })) (fun t => t.port.writeQ.map (·.data) ==
    [[0xAB], [2, 0, 0, 0]]) = true := by decide

theorem test_report_bytes : gives (exec (.report 0) (withArg (on pan) 0x40)) (fun t => t.port.writeQ.map (·.data) ==
    [[1, 0, 0, 0, 0, 0, 0, 0, 100, 0, 0, 0, 0, 0, 0, 0, 0, 255, 0, 0, 0, 0x10, 0, 0] ++ List.replicate 40 0]) = true := by
  decide

/-! ### States and operands that meet the statements' hypotheses -/

theorem witness_StepRunsTheFrontCommand :
    { State.reset with pending := [.throttleHigh] }.pending = Instr.throttleHigh :: [] := rfl

theorem witness_IdleStepPassesOneUnit : State.reset.pending = [] ∧ State.reset.timer.period = none ∧
    ((State.reset.setTimer { count := 0, period := some (8, 6) }).timer.period = some (8, 6) ∧ 6 + 1 < 8) ∧
    (State.reset.setTimer { count := 0, period := some (8, 7) }).timer.period = some (8, 7) ∧ 8 ≤ 7 + 1 := by decide

theorem witness_CommandsLeaveTheQueue : ∃ t, exec .throttleHigh State.reset = .next t := ⟨_, rfl⟩

theorem witness_ClosingAnEventAdvancesHeadsAndRecomputes :
    ((on pan).advance = on pan ∧ (on pan).actors = []) ∧
    ((on pan).ctl.op = .none ∧ (withOp (on pan) .reporting).ctl.op = .reporting ∧
      (withOp (on pan) (.parkWait 0)).ctl.op = .parkWait 0 ∧
      (withOp (on pan) (.reading .tolerance 20 [] false)).ctl.op = .reading .tolerance 20 [] false) ∧
    ((on (holding .fence false)).part = .running ∧ (holding .fence false).state = .ready ∧
      (holding .fence false).unbindPending = false ∧ (holding .fence false).head.started = false) ∧
    (holding .fence false).window = ent .fence :: [] ∧ pan.window = [] ∧ (holding .fence true).head.started ≠ false ∧
    (ent (.gate 0 3 1)).ticket.body = .gate 0 3 1 ∧ fillBody ≠ .fence ∧ fillBody.isGate = false ∧
    (on (holding .fence false)).actors ≠ [] ∧ ∀ p : PanelId, ((on (holding .fence false)).panel p).window.length ≤ 4 := by
  decide

theorem witness_PartControlWritesFollowTheTable : State.reset.part = .stopped ∧ (on pan).part ≠ .stopped ∧
    (on pan).part = .running ∧ State.reset.part ≠ .running ∧ State.reset.ctl.tolEnable = false ∧
    ((on pan).setCtl { Control.reset with tolEnable := true }).ctl.tolEnable = true ∧
    (let s := (on { pan with cursor := .watch 64, repoll := true }).setPart .stopped
     s.part = .stopped ∧ (s.panel 0).state = .ready ∧ (s.panel 0).unbindPending = false ∧
      (s.panel 0).cursor.watching = true ∧ (s.panel 0).access = .idle ∧ (s.panel 0).repoll = true) := by decide

theorem witness_RunStopClosesWriteWindows : (on pan).part = .running ∧ State.reset.part = .stopped ∧
    ((on { pan with tear := { pan.tear with state := .opened } }).panel 0).tear.state = .opened ∧
    (pan.tear.edgeDue true = true ∧ (on pan).isTeEvent 0 true = true ∧ pan.tear.base = false ∧
      pan.tear.skipCtr = 0) := by decide

theorem witness_SoftResetEntersResetting : (State.reset.setPart .resetting).part = .resetting ∧
    State.reset.part ≠ .resetting ∧ (withOp (on pan) .reporting).ctl.resState = .busy ∧
    State.reset.ctl.resState ≠ .busy ∧ ((serving pan .shifting (txOf .send .none)).lane 0).link = .shifting ∧
    ((serving pan .stalled (txOf .send .none)).lane 0).link = .stalled ∧
    ((serving pan .ending (txOf .send .none)).lane 0).link ≠ .stalled := by decide

theorem witness_DrainCompleteGivesSoftResetValues :
    let s := State.reset.setPart .resetting
    let d (own : ReadOwner) : State := awaiting s [{ owner := own, addr := 64, len := 4 }] []
    let x (own : ReadOwner) : ReadTxn := { owner := own, addr := 64, len := 4 }
    let w (k : WriteKind) : State := awaiting s [] [{ kind := k, addr := 8, data := [] }]
    (s.part = .resetting ∧ (∀ l : LaneId, (s.lane l).link = .idle) ∧ ¬ s.port.Holds) ∧
    (State.reset.part ≠ .resetting ∧ (d (.ticket 0)).port.Holds) ∧
    ((d (.ticket 0)).part = .resetting ∧ (d (.ticket 0)).Outstanding (· == .ticket 0) (x (.ticket 0)) ∧
      (d (.link 0)).Outstanding (· == .link 0) (x (.link 0)) ∧
      (d (.control (.profile 1) 0)).Outstanding (ReadOwner.isControl RecordKind.isProfile 0) (x (.control (.profile 1) 0)) ∧
      (d (.control (.laneRecord 1) 0)).Outstanding (ReadOwner.isControl RecordKind.isLaneRecord 0)
        (x (.control (.laneRecord 1) 0)) ∧
      (d (.control .tolerance 0)).Outstanding (ReadOwner.isControl RecordKind.isTolerance 0) (x (.control .tolerance 0)) ∧
      (d (.control (.descriptor 1) 0)).Outstanding (ReadOwner.isControl RecordKind.isDescriptor 0)
        (x (.control (.descriptor 1) 0)) ∧
      (d (.pixel 0 0 0)).Outstanding (ReadOwner.isPixel 0 0 0) (x (.pixel 0 0 0))) ∧
    ((((d (.pixel 0 0 0)).modLane 0 fun ln => { ln with bufA := .reserved }).lane 0).buf 0 = .reserved ∧
      ((d (.pixel 0 0 0)).readFreed (x (.pixel 0 0 0))).fetchOver 0 0 = true ∧
      ¬ ((d (.pixel 0 0 0)).lane 0).buf 0 = .reserved) ∧
    ((w (.taken 0)).port.outWrites = { kind := .taken 0, addr := 8, data := [] } :: [] ∧
      (w (.status 0 .done true true)).port.outWrites = { kind := .status 0 .done true true, addr := 8, data := [] } :: [] ∧
      (w (.reply 0)).port.outWrites = { kind := .reply 0, addr := 8, data := [] } :: [] ∧
      (w .report).port.outWrites = { kind := .report, addr := 8, data := [] } :: []) ∧
    ((s.modLane 0 fun ln => { ln with link := .ending }).lane 0).link = .ending := by decide

theorem witness_RegisterReadsShowTheirFields : regAt 0 = some .ident ∧ regAt 0x2C = some .irqStatus ∧ regAt 2 = none ∧
    regAt 0x30 = none := by decide

theorem witness_RegisterWritesActAsTheirCommands : (2 : Word).getLsbD 1 = true ∧
    ((1 : Word).getLsbD 1 = false ∧ (1 : Word).getLsbD 0 = true) ∧ (0 : Word).getLsbD 1 = false := by decide

theorem witness_RequestsAreAcceptedDroppedOrIgnored : (State.reset.setPart .resetting).part = .resetting ∧
    ((withOp (on pan) .reporting).part ≠ .resetting ∧ (withOp (on pan) .reporting).ctl.resState = .busy) ∧
    State.reset.Accepts := by decide

theorem witness_RefusedRequestsGiveTheTabledResult : (on pan).Accepts ∧
    (Instr.badRequest 0x04 0).wellFormed = true ∧ 16 ≤ (16 : Byte).toNat ∧ 4 ≤ (4 : Byte).toNat ∧
    8 ≤ (8 : Byte).toNat ∧ ((on pan).panel 0).state = .ready ∧ ((on pan).panel 15).state = .unbound ∧
    ((on { pan with state := .parked }).panel 0).state = .parked ∧
    ((on { pan with state := .halted }).panel 0).state = .halted ∧ ¬ ChainAddress (withArg (on pan) 32).ctl.arg := by
  decide

theorem witness_RecordRequestsBeginAControlRead : (withArg (on pan) 4).Accepts ∧
    ((withArg (on pan) 4).ctl.arg ≠ 0 ∧ (withArg (on pan) 4).ctl.arg.toNat % 4 = 0) ∧
    (∀ p : PanelId, ((on pan).panel p).bound = true → ((on pan).panel p).profile ≠ 3) ∧
    (∀ p : PanelId, ((on pan).panel p).bound = true → ((on pan).panel p).desc.lane ≠ 3) ∧
    ((on pan).panel 15).state = .unbound ∧ ((on pan).panel 0).bound = true ∧
    ¬ ((withArg (on pan) 2).ctl.arg ≠ 0 ∧ (withArg (on pan) 2).ctl.arg.toNat % 4 = 0) ∧
    requestTxns (ReadOwner.control .tolerance) 0xFFFFFFFC 20 =
      [{ owner := .control .tolerance 0, addr := 0xFFFFFFFC, len := 4 }] ++
        { owner := .control .tolerance 4, addr := 0, len := 16 } :: [] := by decide

/-- A state whose control read of a record awaits its last transaction. -/
def lastRead (kind : RecordKind) : State :=
  awaiting (withOp (on pan) (.reading kind 4 [] false)) [{ owner := .control kind 0, addr := 4, len := 4 }] []

theorem witness_RecordAnswersLoadTheirTarget :
    let x (k : RecordKind) : ReadTxn := { owner := .control k 0, addr := 4, len := 4 }
    ((lastRead (.profile 1)).part ≠ .resetting ∧ (lastRead (.profile 1)).ctl.op = .reading (.profile 1) 4 [] false ∧
      (lastRead (.profile 1)).Outstanding (ReadOwner.isControl RecordKind.isProfile 0) (x (.profile 1)) ∧
      ((lastRead (.profile 1)).readFreed (x (.profile 1))).port.controlLeft = false) ∧
    ((lastRead (.laneRecord 1)).ctl.op = .reading (.laneRecord 1) 4 [] false ∧
      (lastRead (.laneRecord 1)).Outstanding (ReadOwner.isControl RecordKind.isLaneRecord 0) (x (.laneRecord 1)) ∧
      ((lastRead (.laneRecord 1)).readFreed (x (.laneRecord 1))).port.controlLeft = false) ∧
    (lastRead .tolerance).ctl.op = .reading .tolerance 4 [] false ∧
      (lastRead .tolerance).Outstanding (ReadOwner.isControl RecordKind.isTolerance 0) (x .tolerance) ∧
      ((lastRead .tolerance).readFreed (x .tolerance)).port.controlLeft = false ∧
    (nat8 [7, 1, 1, 0] 0 ≤ 7 ∧ 1 ≤ nat16 [7, 1, 1, 0] 2 ∧ 1 ≤ nat8 [7, 1, 1, 0] 1 ∧ nat8 [7, 1, 1, 0] 1 ≤ 4) ∧
    ¬ (nat8 [8, 1, 1, 0] 0 ≤ 7) ∧ (parseProfile [1]).isSome = true ∧ (parseProfile [0]).isSome = false ∧
    (parseTolerance [0, 0, 0, 0, 1, 0, 0, 0, 2]).isSome = true ∧ TolLevel.active.rank ≤ TolLevel.active.rank ∧
    TolLevel.low.rank < TolLevel.high.rank ∧
    ((parseTolerance [0, 0, 0, 0, 1, 0, 0, 0, 2, 0, 0, 0, 0, 0, 0, 0, 1]).map (·.policy)) = some .direct := by decide

/-- A state whose control read of a record awaits two transactions. -/
def twoReads (kind : RecordKind) : State :=
  awaiting (withOp (on pan) (.reading kind 8 [] false))
    [{ owner := .control kind 0, addr := 60, len := 4 }, { owner := .control kind 4, addr := 64, len := 4 }] []

theorem witness_RecordAnswersLeaveOthersToCome :
    let x (k : RecordKind) : ReadTxn := { owner := .control k 0, addr := 60, len := 4 }
    ((twoReads (.profile 1)).part ≠ .resetting ∧ (twoReads (.profile 1)).ctl.op = .reading (.profile 1) 8 [] false ∧
      (twoReads (.profile 1)).Outstanding (ReadOwner.isControl RecordKind.isProfile 0) (x (.profile 1)) ∧
      ((twoReads (.profile 1)).readFreed (x (.profile 1))).port.controlLeft = true) ∧
    (twoReads (.laneRecord 1)).Outstanding (ReadOwner.isControl RecordKind.isLaneRecord 0) (x (.laneRecord 1)) ∧
    (twoReads .tolerance).Outstanding (ReadOwner.isControl RecordKind.isTolerance 0) (x .tolerance) ∧
    (twoReads (.descriptor 1)).Outstanding (ReadOwner.isControl RecordKind.isDescriptor 0) (x (.descriptor 1)) ∧
    ((twoReads (.descriptor 1)).readFreed (x (.descriptor 1))).port.controlLeft = true := by decide

theorem witness_BindStartsTheSlotOrLeavesIt :
    let s := lastRead (.descriptor 1)
    let x : ReadTxn := { owner := .control (.descriptor 1) 0, addr := 4, len := 4 }
    s.part ≠ .resetting ∧ s.ctl.op = .reading (.descriptor 1) 4 [] false ∧
    s.Outstanding (ReadOwner.isControl RecordKind.isDescriptor 0) x ∧ (s.readFreed x).port.controlLeft = false := by
  decide

/-- A descriptor that BIND accepts for a second panel on lane 0. -/
def descBytes : List Byte :=
  [0, 1, 0, 0, 4, 0, 4, 0, 0, 0, 4, 0, 0, 0, 15, 0, 41, 0, 1, 0, 0, 1, 1, 0, 0, 0, 0, 0, 0x40, 0, 0, 0]

theorem test_bind_ok : gives (exec (.descriptorReadAnswered 0 (.ok descBytes)) (awaiting
      (withOp (on pan) (.reading (.descriptor 1) 32 [] false))
      [{ owner := .control (.descriptor 1) 0, addr := 0x40, len := 32 }] [])) (fun t =>
    t.ctl.result = .ok && (t.panel 1).state = .ready && (t.panel 1).credit = 41 && (t.lane 0).committed = 141) = true := by
  decide

theorem test_bind_noLane : gives (exec (.descriptorReadAnswered 0 (.ok (1 :: descBytes.drop 1))) (awaiting
      (withOp (on pan) (.reading (.descriptor 1) 32 [] false))
      [{ owner := .control (.descriptor 1) 0, addr := 0x40, len := 32 }] [])) (fun t =>
    t.ctl.result = .noLane && t.panel 1 = Panel.reset false) = true := by decide

theorem witness_ParkAndResumeMoveThePanel : (on pan).Accepts ∧ ((on pan).panel 0).state = .ready ∧
    (on pan).inFlight 0 = false ∧ (serving pan .shifting (txOf .send .none)).inFlight 0 = true ∧
    ((on { pan with state := .parked }).panel 0).state = .parked ∧ pan.access = .idle ∧
    pan.cursor = .nextKnown 0x1000 ∧ ({ pan with access := .polling } : Panel).access ≠ .idle ∧
    ({ pan with cursor := .watch 64 } : Panel).cursor = .watch 64 ∧ (on pan).part = .running ∧
    ((on pan).setPart .stopped).part = .stopped := by decide

/-- The GATE ticket that stands at the head of each listed panel's window in `gated`. -/
def gateFront (_ : PanelId) : Entry := ent (.gate 0 3 1)

/-- Lane 0 finishing the byte of a cut transaction of panel 0. -/
def cutting (r : Panel) (cause : AbortCause) : State :=
  (serving r .aborting (txOf (.strip 2) .none)).modLane 0 fun ln => { ln with cause := some cause }

theorem witness_UnbindAndRewindEndTheWindow :
    let s := serving pan .shifting (txOf .send .none)
    let v := serving pan .stalled (txOf .send .none)
    let u := withArg (on { pan with state := .halted }) 64
    (s.Accepts ∧ (s.panel 0).state ≠ .unbound ∧ s.inFlight 0 = true ∧ (s.lane (s.panel 0).desc.lane).link = .shifting) ∧
    ((v.lane 0).tx = some (txOf .send .none) ∧ (v.lane 0).link = .stalled) ∧
    (u.Accepts ∧ (u.panel 0).state = .halted ∧ ChainAddress u.ctl.arg ∧ u.inFlight 0 = false ∧
      (u.panel 0).access = .idle) ∧
    ((cutting pan .unbind).part ≠ .resetting ∧ ((cutting pan .unbind).lane 0).link = .aborting ∧
      ((cutting pan .unbind).lane 0).cause = some .unbind ∧ ((cutting pan .rewind).lane 0).cause = some .rewind) ∧
    ((withOp s (.unbindWait 0)).inFlight 0 = true ∧ (withOp s (.unbindWait 0)).ctl.op = .unbindWait 0 ∧
      ({ pan with access := .polling } : Panel).access ≠ .idle) ∧
    ((withOp gated (.unbindWait 0)).ctl.op = .unbindWait 0 ∧ (withOp gated (.unbindWait 0)).inFlight 0 = false ∧
      ((withOp gated (.unbindWait 0)).panel 0).access = .idle ∧ (withOp gated (.unbindWait 0)).lostGates 0 = [0] ∧
      (withOp gated (.unbindWait 0)).Fronts [0] gateFront) ∧
    ((on pan).port.statusFor 0 = false ∧
      (awaiting (on pan) [] [{ kind := .status 0 .done false true, addr := 8, data := [] }]).port.statusFor 0 = true ∧
      (on pan).port.statusOfRequest = false ∧
      (awaiting (on pan) [] [{ kind := .status 0 .done false true, addr := 8, data := [] }]).port.statusOfRequest = true) ∧
    ((withOp gated (.rewindWait 0 64)).ctl.op = .rewindWait 0 64 ∧ (gated.panel 0).gateAt = some 0 ∧
      (u.panel 0).gateAt ≠ some 0 ∧ (gated.gate 0).list.filter (· ≠ 0) = []) ∧
    (withOp u (.rewindWrites 0)).ctl.op = .rewindWrites 0 ∧ (withOp u (.unbindWrites 0)).ctl.op = .unbindWrites 0 := by
  decide

theorem witness_ReportWritesASnapshot :
    let s := awaiting (withOp (on pan) .reporting) [] [{ kind := .report, addr := 64, data := [] }]
    ((withArg (on pan) 64).Accepts ∧ ChainAddress (withArg (on pan) 64).ctl.arg) ∧
    s.part ≠ .resetting ∧ s.ctl.op = .reporting ∧
      s.port.outWrites = { kind := .report, addr := 64, data := [] } :: [] := by decide

theorem witness_RetuneTeReplacesTheSettings : (withArg (on pan) 0x412).Accepts ∧ 16 ≤ (16 : Byte).toNat ∧
    ((on pan).panel 15).state = .unbound ∧ ((on pan).panel 0).state ≠ .unbound ∧
    ¬ (((0x412 : Word).extractLsb' 0 2).toNat = 3 ∨ ((0x412 : Word).extractLsb' 8 3).toNat = 0 ∨
      4 < ((0x412 : Word).extractLsb' 8 3).toNat) ∧
    ((0x103 : Word).extractLsb' 0 2).toNat = 3 ∧ ((0x012 : Word).extractLsb' 8 3).toNat = 0 ∧
    4 < ((0x512 : Word).extractLsb' 8 3).toNat := by decide

theorem witness_BreakGateBreaksAnArmedEntry : gated.Accepts ∧ (gated.gate 0).armed = true ∧
    (gated.gate 7).armed = false ∧ gated.Fronts [0] gateFront ∧ gated.listed [0] = [0] ∧
    (withOp gated (.breakWrites 0)).ctl.op = .breakWrites 0 ∧ gated.port.statusOfRequest = false := by decide

theorem witness_NudgePollsOrMarksEachPanel : (State.reset.setPart .resetting).part = .resetting ∧
    nudgePolled 1 (on { pan with cursor := .watch 64 }) 0 ∧
    nudgeMarked 1 (on { pan with cursor := .watch 64, access := .polling }) 0 ∧
    (¬ nudgePolled 1 (on pan) 0 ∧ ¬ nudgeMarked 1 (on pan) 0) := by decide

theorem witness_TicketFetchBeginsWhenItsConditionsHold :
    let r := { pan with window := [ent .fence, ent .fence, ent .fence] }
    let full := { pan with window := [ent .fence, ent .fence, ent .fence, ent .fence] }
    ((on r).part = .running ∧ ((on r).panel 0).state = .ready ∧ ((on r).panel 0).unbindPending = false ∧
      ((on r).panel 0).cursor = .nextKnown 0x1000 ∧ ((on r).panel 0).access = .idle ∧
      ((on r).panel 0).window.length < 4) ∧ ¬ ((on full).panel 0).window.length < 4 := by decide

/-- A port that holds the requests of several classes. -/
def portOf (pix ch ctl : List ReadTxn) (ws : List WriteTxn) : Port :=
  { Port.reset with pixQ := Port.reset.pixQ.set 3 pix, chainQ := ch, ctlQ := ctl, writeQ := ws }

theorem witness_PortSendsTheFirstSendableClass :
    let rd : ReadTxn := { owner := .ticket 0, addr := 64, len := 64 }
    let rep : WriteTxn := { kind := .report, addr := 64, data := [] }
    let st : WriteTxn := { kind := .taken 0, addr := 64, data := [] }
    ((portOf [rd] [] [] []).outReads.length < 8 ∧ (portOf [rd] [] [] []).pixQ[(3 : LaneId)] ≠ []) ∧
    ((portOf [] [] [] [st]).outWrites.length < 4 ∧ st.kind ≠ .report ∧ (portOf [] [] [] [st]).writeQ = st :: []) ∧
    (rd ∈ (portOf [] [rd] [] []).chainQ ∧ notHeld (portOf [] [rd] [] []) rd) ∧
    (¬ notHeld (portOf [] [rd] [] [st]) rd) ∧ (portOf [] [] [rd] []).ctlQ ≠ [] ∧
    (portOf [] [] [] [rep]).writeQ = rep :: [] ∧ (portOf [] [] [] []).writeQ = [] := by decide

theorem witness_ResponsesNobodyAwaitsAreFaults : State.reset.port.outReads = [] ∧ State.reset.port.outWrites = [] ∧
    (awaiting State.reset [{ owner := .ticket 0, addr := 64, len := 64 }] []).Outstanding (· == .ticket 0)
      { owner := .ticket 0, addr := 64, len := 64 } ∧ ([] : List Byte).length ≠ 64 ∧
    (awaiting State.reset [{ owner := .link 0, addr := 64, len := 4 }] []).Outstanding (· == .link 0)
      { owner := .link 0, addr := 64, len := 4 } ∧ ([0, 0, 0] : List Byte).length ≠ 4 ∧
    (awaiting State.reset [{ owner := .pixel 0 0 0, addr := 64, len := 4 }] []).Outstanding (ReadOwner.isPixel 0 0 0)
      { owner := .pixel 0 0 0, addr := 64, len := 4 } ∧
    (lastRead (.profile 1)).Outstanding (ReadOwner.isControl RecordKind.isProfile 0)
      { owner := .control (.profile 1) 0, addr := 4, len := 4 } ∧
    (awaiting State.reset [] [{ kind := .report, addr := 64, data := [] }]).port.outWrites =
      { kind := .report, addr := 64, data := [] } :: [] ∧ WriteKind.taken 0 ≠ .report := by decide

theorem witness_HaltingFaultsFollowTheTable : ((on pan).panel 0).state = .ready ∧
    ((gated.gate 0).armed = true ∧ hasPanel (gated.gate 0).mask 0 = true) ∧
    (((withOp (on { pan with state := .parking }) (.parkWait 0)).panel 0).state = .parking ∧
      (withOp (on { pan with state := .parking }) (.parkWait 0)).ctl.op = .parkWait 0) ∧
    ((on pan).panel 15).state = .unbound ∧ gated.lostGates 0 = [0] ∧ gated.Fronts (gated.lostGates 0) gateFront := by decide

theorem witness_EndedTicketsAreWrittenOnceInChainOrder : (holding .fence false).window = ent .fence :: [] ∧
    pan.window = [] := by decide

/-- A panel whose ticket read is outstanding. -/
def fetchingTicket : State :=
  awaiting (on { pan with access := .fetching }) [{ owner := .ticket 0, addr := 0x1000, len := 64 }] []

theorem witness_TicketReadsHaveFourOutcomes : fetchingTicket.part ≠ .resetting ∧
    fetchingTicket.Outstanding (· == .ticket 0) { owner := .ticket 0, addr := 0x1000, len := 64 } ∧
    ((fenceBytes 0).length = 64 ∧ ticketPosted (fenceBytes 0) = true ∧
      (parseTicket 0x1000 (fenceBytes 0)).isSome = true) ∧
    (ticketPosted ([0, 0, 0, 0, 8, 0, 0, 0, 1] ++ List.replicate 55 0) = false) ∧
    (MalformedTicket (List.replicate 64 0) ∧ ticketPosted (List.replicate 64 0) = true) ∧
    (gated.haltGates 1 = [0] ∧ gated.Fronts (gated.haltGates 1) gateFront ∧
      (on { pan with state := .parked }).haltGates 0 = []) := by decide

/-- A panel whose TAKEN write is outstanding. -/
def takingTicket (b : Body) (link : Word) : State :=
  awaiting (on { pan with access := .fetching, fetched := some ((ent b).ticket, link) }) []
    [{ kind := .taken 0, addr := 0x1008, data := [1, 0, 0, 0] }]

theorem witness_TakenAnswersTakeTheTicket :
    let w : WriteTxn := { kind := .taken 0, addr := 0x1008, data := [1, 0, 0, 0] }
    ((takingTicket fillBody 0).part ≠ .resetting ∧ (takingTicket fillBody 0).port.outWrites = w :: [] ∧
      ((takingTicket fillBody 0).panel 0).fetched = some ((ent fillBody).ticket, 0)) ∧
    ChainAddress 64 ∧ ¬ ((32 : Word) = 0 ∨ ChainAddress 32) ∧ fillBody.rect? = some full ∧ Body.fence.rect? = none ∧
    (∀ g : GateId, (0 : PanelId) ∉ ((takingTicket fillBody 0).gate g).list) ∧
    (let u := (takingTicket fillBody 0).modPanel 0 fun r => { r with resumePoll := true }
     (u.panel 0).resumePoll = true ∧ (u.panel 0).state = .ready ∧ (u.panel 0).unbindPending = false ∧
      u.part = .running ∧ (u.setPart .stopped).part = .stopped ∧ (u.panel 0).fetched = some ((ent fillBody).ticket, 0)) ∧
    ((takingTicket .fence 32).Fronts ((takingTicket .fence 32).haltGates 0) gateFront ∧
      gated.Fronts (gated.haltGates 0) gateFront ∧ 0 ∈ gated.listed (gated.haltGates 0) ∧
      (gateFront 0).ticket.body.isGate = true) := by decide

/-- A panel whose link poll is outstanding. -/
def pollingLink (resume repoll : Bool) : State :=
  awaiting (on { pan with access := .polling, cursor := .watch 64, resumePoll := resume, repoll := repoll })
    [{ owner := .link 0, addr := 64, len := 4 }] []

theorem witness_LinkPollAnswersMoveTheCursor : (pollingLink true true).part ≠ .resetting ∧
    (pollingLink true false).Outstanding (· == .link 0) { owner := .link 0, addr := 64, len := 4 } ∧
    ((pollingLink false false).panel 0).cursor = .watch 64 ∧ ((pollingLink true false).panel 0).active = true ∧
    ((pollingLink true false).panel 0).resumePoll = true ∧ ((pollingLink false true).panel 0).repoll = true ∧
    word32 [0, 0, 0, 0] 0 = 0 ∧ ChainAddress (word32 [64, 0, 0, 0] 0) ∧
    (word32 [32, 0, 0, 0] 0 ≠ 0 ∧ ¬ ChainAddress (word32 [32, 0, 0, 0] 0)) := by decide

theorem witness_StatusAnswersSetNotifyAndFault :
    let w : WriteTxn := { kind := .status 0 .failed true true, addr := 8, data := [9, 1, 0, 0] }
    let v : WriteTxn := { kind := .reply 0, addr := 18, data := [0] }
    (awaiting (on pan) [] [w]).part ≠ .resetting ∧ (awaiting (on pan) [] [w]).port.outWrites = w :: [] ∧
    w.kind = .status 0 .failed true true ∧ (awaiting (on pan) [] [v]).port.outWrites = v :: [] ∧
    v.kind = .reply 0 := by decide

theorem witness_SupersedeFollowsItsTest : 0 < [ent fillBody].length ∧
    supersedes desc false [ent fillBody] full 0 (ent fillBody) =
      some { state := .superseded, reason := .none, detail := 0 } ∧
    supersedes desc true [ent fillBody] full 0 (ent fillBody) = none ∧
    supersedes desc false [ent fillBody, ent .fence] full 0 (ent fillBody) = none ∧
    supersedes desc false [ent fillBody] { full with w := 3 } 0 (ent fillBody) = none := by decide

theorem witness_HeadChecksGiveTheFirstFailure : Descriptor.zero.vsa = 0 ∧ desc.vsa ≠ 0 ∧
    Profile.reset.scrollCode = none ∧ prof.scrollCode ≠ none ∧ desc.vsa ≤ 4 ∧ 3 < desc.vsa ∧
    fillBody.rect? = some full ∧ headCheck desc prof fillBody = none ∧
    (ent (.scroll 4)).ticket.body = .scroll 4 := by decide

theorem witness_GateArrivalsFollowTheirTests : hasPanel 2 0 = false ∧
    (hasPanel 5 0 = true ∧ (gated.gate 0).armed = true ∧ (gated.gate 0).mask ≠ 5) ∧
    (hasPanel 5 0 = true ∧ (gated.gate 1).armed = false ∧ (gated.panel 2).state = .unbound) ∧
    (hasPanel 3 1 = true ∧ (gated.gate 0).mask = 3 ∧ (gated.panel 0).state = .ready ∧ (gated.panel 1).state = .ready) ∧
    (∀ q : PanelId, hasPanel 3 q = true → q ∈ (gated.gate 0).list ++ [1]) ∧
    (let s := gated.setPanel 1 (holding (.gate 0 3 1) false)
     ((s.gate 0).list ++ [1]).Nodup ∧ ∀ q ∈ (s.gate 0).list ++ [1], (s.panel q).window.head? = some (gateFront q)) := by
  decide

theorem witness_GateReleasesAndBreaksWriteInArrivalOrder : (gated.gate 0).list.Nodup ∧
    (∀ q ∈ (gated.gate 0).list, (gated.panel q).window.head? = some (ent (.gate 0 3 1))) ∧
    (gated.gate 0).align = true ∧ hasPanel (gated.gate 0).mask 1 = true ∧ (gated.panel 1).tear.state ≠ .opened ∧
    (((gated.setPanel 1 { pan with tear := { pan.tear with state := .opened } }).panel 1).tear.state = .opened) := by
  decide

theorem witness_ArbiterPicksByClassThenRoundRobin : (on (holding fillBody false)).winner 0 = some 0 ∧
    (on (holding fillBody false)).eligible 0 = true ∧
    (∀ q : PanelId, (on pan).eligible q = true → ((on pan).panel q).desc.lane ≠ 0) := by decide

theorem witness_GrantsStartTheWinnersTransaction :
    let s := on (holding fillBody false)
    let u := on (holding (.send 1 [2]) false)
    (s.winner 0 = some 0 ∧ (s.panel 0).headTicket = some (ent fillBody).ticket) ∧
    (commandCost prof fillBody = none ∧ ((s.panel 0).plan prof).isSome = true) ∧
    (u.winner 0 = some 0 ∧ (u.panel 0).headTicket = some (ent (.send 1 [2])).ticket ∧
      commandCost prof (.send 1 [2]) = some 2 ∧ 2 ≤ (u.lane 0).reserveCredit) ∧
    ((u.setLane 0 { laneUp with reserveCredit := 1 }).winner 0 = some 0) ∧
    ((on (holding drawBody false)).winner 0 = some 0 ∧ ((on (holding drawBody false)).lane 0).bufA = .free ∧
      ((on (holding drawBody false)).lane 0).bufB = .free) ∧
    ((s.baseTx 0).command desc prof .sleep).units.length = 1 ∧
    (let c := on { holding fillBody true with cont := true }
     c.winner 0 = some 0 ∧ (c.panel 0).plan prof =
        some { rows := 4, cost := 33, gated := false, continued := true, logical := 0, mem := 0, memEnd := 3 } ∧
      ((c.baseTx 0).strip prof { rows := 4, cost := 33, gated := false, continued := true, logical := 0, mem := 0
                                 memEnd := 3 } fillBody).units.length = 1) ∧
    (let v := (on (holding drawBody false)).setLane 0 { laneUp with bufA := .reserved }
     v.winner 0 = some 0 ∧ (v.lane 0).bufA ≠ .free ∧ (v.lane 0).bufB = .free) := by decide

theorem witness_ThrottleHoldsBackGrants : (State.reset.setPins { Pins.reset with throttle := true }).pins.throttle = true :=
  rfl

theorem witness_ByteTimesMoveTheTransactionOn :
    let s := serving (holding (.send 1 []) true) .shifting (txOf .send .none)
    let f := (fetchingRow .shifting none).lane 0
    ((s.lane 0).link = .shifting ∧ (s.lane 0).stage = none ∧ ((s.lane 0).capture 0).supply = .exhausted) ∧
    ((fetchingRow .shifting (some (.data 1))).lane 0).stage = some (.data 1) ∧
    (f.capture 0).supply = .late ∧ ((serving pan .aborting (txOf .send .none)).lane 0).link = .aborting ∧
    ((on pan).lane 0).link ≠ .shifting ∧
    ((cutting pan .softReset).lane 0).cause = some .softReset ∧ ((cutting pan .unbind).setPart .resetting).part = .resetting ∧
    (let u := (serving pan .shifting (txOf .read .none)).modLane 0 fun ln => { ln with shift := some .clockIn }
     (u.lane 0).shift = some .clockIn ∧ (u.lane 0).tx = some (txOf .read .none) ∧ (txOf .read .none).dummy = 0) ∧
    (f.tx = some (txOf (.strip 2) (.draw rowsFeed)) ∧ f.link = .shifting ∧ rowsFeed.next < rowsFeed.rows ∧
      f.buf 1 = .free ∧ f.buf 0 ≠ .free) ∧
    (let g := (serving (holding (.send 1 [2]) true) .shifting { txOf .send .none with units := [.data 2, .data 3] }).lane 0
     g.stage = none ∧ g.supply = .byte (.data 2) { g with tx := some { txOf .send .none with units := [.data 3] } }) := by
  decide

theorem witness_PixelAnswersFillTheRowOrHalt :
    let x : ReadTxn := { owner := .pixel 0 0 0, addr := 0x8000, len := 8 }
    let s := fetchingRow .shifting (some (.data 1))
    let u := fetchingRow .stalled none
    (s.part ≠ .resetting ∧ (s.lane 0).buf 0 = .fetching 0 8 [] false ∧ s.Outstanding (ReadOwner.isPixel 0 0 0) x ∧
      (s.lane 0).tx = some (txOf (.strip 2) (.draw rowsFeed))) ∧
    ((s.readFreed x).fetchOver 0 0 = true ∧ gotLength (insertPart 0 [1, 2, 3, 4, 5, 6, 7, 8] []) = 8 ∧
      (s.lane 0).link = .shifting ∧ (s.lane 0).stage ≠ none ∧ (s.lane 0).cause = none) ∧
    ((u.lane 0).link = .stalled ∧ (u.lane 0).stage = none ∧ rowsFeed.cur = 0 ∧ rowsFeed.cur < rowsFeed.rows ∧
      (u.lane 0).holding 0 = none) ∧
    (let v := fetchingRow .shifting none
     (v.readFreed x).fetchOver 0 0 = true ∧ (v.lane 0).link = .shifting ∧ (v.lane 0).stage = none ∧
      (v.lane 0).holding 0 = none ∧ (txOf (.strip 2) (.draw rowsFeed)).units = []) ∧
    ((awaiting u [x, { owner := .pixel 0 0 8, addr := 0x8008, len := 8 }] []).readFreed x).fetchOver 0 0 = false ∧
    (let c := (fetchingRow .aborting none).modLane 0 fun ln => { ln with cause := some .forcedPark }
     (c.lane 0).cause = some .forcedPark ∧ (c.lane 0).buf 0 = .fetching 0 8 [] false ∧
      c.Outstanding (ReadOwner.isPixel 0 0 0) x ∧ (c.readFreed x).fetchOver 0 0 = true) ∧
    (let e := cutting (holding drawBody true) .pixelError
     (e.lane 0).cause = some .pixelError ∧ (e.panel 0).window = ent drawBody :: [] ∧ ¬ e.ctl.op.parks 0) ∧
    (let r := (fetchingRow .idle none).modLane 0 fun ln => { ln with bufA := .reserved }
     (r.lane 0).buf 0 = .reserved ∧ r.Outstanding (ReadOwner.isPixel 0 0 0) x ∧ (r.readFreed x).fetchOver 0 0 = true) ∧
    (((fetchingRow .idle none).modLane 0 fun ln => { ln with bufA := .free }).lane 0).buf 0 = .free := by decide

theorem witness_PixelAnswersOfAnotherRowOrInStalled :
    let x : ReadTxn := { owner := .pixel 0 0 0, addr := 0x8000, len := 8 }
    let n := (fetchingRow .stalled none).modLane 0 fun ln => { ln with bufA := .fetching 1 8 [] false }
    ((n.lane 0).buf 0 = .fetching 1 8 [] false ∧ rowsFeed.cur ≠ 1 ∧ (n.lane 0).holding 0 = none ∧
      (n.readFreed x).fetchOver 0 0 = true ∧ (n.lane 0).cause = none ∧ (n.panel 0).window = ent drawBody :: []) ∧
    (n.Fronts (n.haltGates 0) gateFront ∧ 0 ∉ n.listed (n.haltGates 0) ∧ ¬ n.ctl.op.parks 0) ∧
    gotLength (insertPart 0 [1, 2, 3, 4] []) ≠ 8 ∧ ((fetchingRow .aborting none).lane 0).link = .aborting := by decide

theorem witness_CompletionsApplyTheirKind :
    let s := serving (holding fillBody true) .ending (txOf (.strip 4) .none)
    (s.part ≠ .resetting ∧ (s.lane 0).link = .ending ∧ (s.lane 0).tx = some (txOf (.strip 4) .none) ∧
      (s.panel 0).window = ent fillBody :: []) ∧
    ((s.panel 0).headPieces[0]? = some { logical := 0, mem := 0, rows := 4 } ∧ (s.panel 0).head.piece = 0 ∧
      (s.panel 0).head.rows + 3 < 4 ∧ 4 ≤ (s.panel 0).head.rows + 4 ∧ (s.panel 0).headPieces.length = 1 ∧
      (s.panel 0).head.started = true) ∧
    (({ holding fillBody true with head := { Head.clear with started := true, offset := 1 } } : Panel).headPieces.length
      = 2) ∧
    ((serving pan .gapAfterAbort (txOf .send .none)).lane 0).link = .gapAfterAbort ∧ ((on pan).lane 0).link ≠ .ending ∧
    0 < prof.sleepSettle ∧ prof.wakeSettle = 0 := by decide

theorem witness_TransactionsSendTheirBytesWithinTheirLimit : prof.k = 1 ∧
    ((holding fillBody false).planUnder prof 23).map (·.rows) = some 2 ∧
    ((holding fillBody false).planUnder prof 22).map (·.rows) = some 1 ∧
    commandCost prof (.read 1 8) = some 10 ∧
    (prof.continueCode = some 0x3C ∧ prof.scrollCode = some 0x37 ∧ prof.sleepCode = some 0x10 ∧
      prof.wakeCode = some 0x11) ∧
    ((txOf .send (.fill [1, 2] 3)).units = [] ∧ (txOf .send (.fill [1, 2] 3)).feed = .fill [1, 2] 3 ∧ 0 < 3 ∧
      3 + 5 = 4 * [(1 : Byte), 2].length) ∧
    (rowsFeed.cur < rowsFeed.rows ∧ ({ laneUp with bufA := .held 0 [1, 2] } : Lane).buf 0 = .held rowsFeed.cur [1, 2] ∧
      ({ laneUp with bufA := .held 0 [1, 2] } : Lane).buf 1 = .free ∧ rowsFeed.pos + 1 < [(1 : Byte), 2].length ∧
      [(1 : Byte)].length ≤ rowsFeed.pos + 1 ∧ laneUp.buf 0 = .free ∧ laneUp.buf 1 = .free) ∧
    ({ laneUp with shift := some (.cmd 5), tx := some (txOf .send .none) } : Lane).shift = some (.cmd 5) ∧
    (let r : Panel := holding fillBody true
     r.desc.policy = .blank ∧ r.display = .awake ∧ r.tear.state = .untracked ∧ r.desc.fallback = .free ∧
      ({ pan.tear with state := .opened } : Channel).state = .opened ∧ r.window = ent fillBody :: [] ∧
      fillBody.rect? = some full ∧ Body.fence.rect? = none ∧ pan.window = []) := by decide

theorem witness_PiecesCoverTheRectangleInOrder : desc.tfa + desc.vsa + desc.bfa = desc.height ∧ 3 < desc.vsa ∧
    (1 ≤ 4 ∧ 0 + 4 ≤ desc.height) ∧ (desc.pieces 3 0 4).length = 2 := by decide

theorem witness_PixelsKeepTheirColour : 3 < rowsFeed.width ∧ 1 < rowsFeed.dst.bpp := by decide

theorem witness_EdgesBecomeTeEvents : true ≠ pan.tear.qualified ∧ pan.tear.filter = .none ∧
    ((on pan).panel 0).desc.policy = .blank ∧ ((on pan).panel 0).display = .awake ∧ pan.tear.edge = .rising ∧
    (let c := ((lastWindow 0).panel 0).tear
     c.state = .opened ∧ c.hold ≤ 1 ∧ (lastWindow 0).timer.period = some (8, 7) ∧ 8 ≤ 7 + 1 ∧ pan.tear.state ≠ .opened) ∧
    ((lastWatch 1).timer.period = some (8, 7) ∧ ((lastWatch 1).panel 0).desc.teWatch = 1 ∧
      ((lastWatch 1).panel 0).tear.state ≠ .opened ∧ (lastWatch 1).isTeEvent 0 true = true) ∧
    TeFilter.two.samples = some 2 ∧ ({ pan.tear with filter := .two, run := 1 } : Channel).edgeDue true = true ∧
    ({ pan.tear with filter := .two, run := 0 } : Channel).edgeDue true = false := by decide

theorem witness_WindowsCloseAndTrackingIsLost :
    let o : Panel := { pan with tear := { pan.tear with state := .opened, hold := 0 } }
    let w : Panel := { pan with tear := { pan.tear with watch := 3 } }
    (((on o).panel 0).state ≠ .unbound ∧ o.tear.state = .opened ∧ o.tear.hold = 0 ∧ o.tear.meeting = .none ∧
      (on o).part ≠ .resetting) ∧
    (w.tear.armed = true ∧ w.desc.policy = .blank ∧ w.display = .awake ∧ w.desc.teWatch ≤ w.tear.watch) ∧
    (pan.tear.state ≠ .opened ∧ ¬ pan.desc.teWatch ≤ pan.tear.watch) ∧
    (∀ w ∈ [1, 255], let s := lastWatch w
      s.part = .running ∧ s.timer.period = some (8, 7) ∧ (s.panel 0).tear.armed = true ∧ 1 ≤ (s.panel 0).desc.teWatch ∧
        (s.panel 0).desc.teWatch ≤ 255 ∧ (s.panel 0).desc.teWatch ≤ (s.panel 0).tear.watch + 1 ∧
        (s.panel 0).tear.edgeDue true = true ∧ s.isTeEvent 0 true = true ∧ (s.panel 0).tear.meeting = .none) ∧
    ∀ n < 2, let s := lastWindow n
      s.part = .running ∧ s.timer.period = some (8, 7) ∧ (s.panel 0).tear.state = .opened ∧ (s.panel 0).tear.hold = 1 ∧
        (s.panel 0).tear.meeting = .none ∧ (s.panel 0).tear.edgeDue true = true ∧ s.isTeEvent 0 true = true ∧
        (s.panel 0).tear.skipCtr = n := by decide

theorem witness_PeriodBoundariesMoveEveryCounter : State.reset.part ≠ .running ∧ (on pan).part = .running ∧
    ((on pan).timer.period = some (8, 0) ∧ 0 + 1 < 8) ∧ State.reset.timer.period = none ∧
    (((on pan).setTimer { count := 0, period := some (8, 7) }).timer.period = some (8, 7) ∧ 8 ≤ 7 + 1) ∧
    ((on pan).panel 15).state = .unbound ∧ ((on pan).panel 0).state ≠ .unbound ∧
    (0 + 1 : Word).toNat % 2 ^ desc.intervalCode = (0 : PanelId).val % 2 ^ desc.intervalCode ∧
    (1 : Word).toNat % 2 ^ 5 ≠ (0 : PanelId).val % 2 ^ 5 ∧ ({ pan with cursor := .watch 64 } : Panel).access = .idle ∧
    ({ pan with access := .polling } : Panel).access = .polling ∧
    ({ pan.tear with meeting := .coming true, state := .opened, hold := 1 } : Channel).hold ≤ 1 := by decide

theorem witness_SettlesEndInTheirSubState :
    let r : Panel := { holding .sleep true with display := .settlingToAsleep, settle := 0 }
    ((on r).panel 0).state ≠ .unbound ∧ r.display = .settlingToAsleep ∧ r.settle = 0 ∧ (on r).part ≠ .resetting ∧
    r.window = ent .sleep :: [] ∧ r.head.started = true ∧ (ent .sleep).ticket.body = .sleep ∧
    ({ r with display := .settlingToAwake } : Panel).display = .settlingToAwake ∧
    ¬ ({ r with settle := 1 } : Panel).settle = 0 := by decide

theorem witness_ForcedParksCutTheTransaction :
    let r : Panel := { holding fillBody true with state := .parking, parkWait := 0 }
    let s := withOp (serving r .stalled (txOf (.strip 2) .none)) (.parkWait 0)
    let u := withOp (serving r .shifting (txOf (.strip 2) .none)) (.parkWait 0)
    (s.ctl.op = .parkWait 0 ∧ (s.panel 0).state = .parking ∧ (s.panel 0).parkWait = 0 ∧ s.part ≠ .resetting) ∧
    ((s.lane 0).tx = some (txOf (.strip 2) .none) ∧ (txOf (.strip 2) .none).panel = 0 ∧
      (s.panel 0).window = ent fillBody :: []) ∧
    (s.lane 0).link = .stalled ∧ (u.lane 0).link = .shifting ∧ (on pan).ctl.op ≠ .parkWait 0 ∧
    (let v := serving r .ending (txOf (.strip 2) .none)
     (v.lane 0).link = .ending ∧ (withOp v (.parkWait 0)).ctl.op = .parkWait 0 ∧ (v.lane 0).tx = some (txOf (.strip 2) .none) ∧ v.part ≠ .resetting ∧
      (v.panel 0).state = .parking ∧ (withOp v (.parkForced 0)).ctl.op = .parkForced 0) ∧
    (let c := withOp (cutting r .forcedPark) (.parkForced 0)
     c.part ≠ .resetting ∧ (c.lane 0).link = .aborting ∧ (c.lane 0).tx = some (txOf (.strip 2) .none) ∧
      (c.lane 0).cause = some .forcedPark ∧ (c.panel 0).window = ent fillBody :: [] ∧ c.ctl.op = .parkForced 0 ∧
      (c.panel 0).state = .parking) ∧
    ((cutting { r with state := .halted } .forcedPark).panel 0).state ≠ .parking ∧
    ¬ (cutting r .forcedPark).ctl.op.parks 0 ∧ (withOp (on r) (.parkWrite 0)).ctl.op = .parkWrite 0 ∧
    (on r).port.statusOfRequest = false := by decide

theorem witness_ExpiryEndsTheMarkedTickets :
    let r : Panel := { holding fillBody false with window := [{ ent fillBody with due := true }] }
    (r.window.zipIdx.filter fun e => e.1.due && !(r.head.started && e.2 == 0)) ≠ [] ∧
    ((on r).panel 0).state ≠ .unbound ∧ (on r).part ≠ .resetting ∧
    (pan.window.zipIdx.filter fun e => e.1.due && !(pan.head.started && e.2 == 0)) = [] := by decide

theorem witness_GateTimeoutsBreakTheirEntries :
    let s := gated.setGate 0 { armedGate with timeout := some 0 }
    (s.part ≠ .resetting ∧ (s.gate 0).armed = true ∧ (s.gate 0).timeout = some 0) ∧
    (∀ g : GateId, ¬ ((gated.gate g).armed = true ∧ (gated.gate g).timeout = some 0)) ∧
    (s.timedOutGates = [0] ∧ s.Fronts s.timedOutGates gateFront ∧ s.listed s.timedOutGates = [0]) := by decide

theorem witness_AcceptsEndTheMessageInFlight :
    (State.reset.setPins { Pins.reset with tolAccept := true }).pins.tolAccept = true ∧
    State.reset.pins.tolAccept = false ∧ State.reset.tol.inFlight = none ∧
    ({ Tolerance.reset with inFlight := some 1, slot := some 2 } : Tolerance).slot = some 2 ∧
    ({ Tolerance.reset with inFlight := some 1 } : Tolerance).inFlight ≠ none := by decide

theorem witness_RecomputesFollowTheIdleTime : State.reset.tol.loaded = false ∧
    (State.reset.setPart .resetting).part = .resetting ∧
    ({ Tolerance.reset with loaded := true, level := .high } : Tolerance).loaded = true ∧
    TolLevel.active.rank ≤ TolLevel.high.rank ∧ TolLevel.active.rank < TolLevel.high.rank ∧
    TolRecord.zero.policy = .stepped ∧ ({ TolRecord.zero with policy := .direct } : TolRecord).policy = .direct ∧
    (on (holding fillBody false)).eligible 0 = true ∧ ¬ State.reset.port.Holds ∧
    (¬ (on pan).port.Holds ∧ (∀ l : LaneId, ((on pan).lane l).link = .idle) ∧
      (∀ p : PanelId, (on pan).eligible p = false) ∧ (on pan).part = .running ∧ ((on pan).panel 0).state = .ready) ∧
    (State.reset.part ≠ .running ∧ ∀ p : PanelId, (State.reset.panel p).state ≠ .ready) ∧
    (let r : Panel := { holding fillBody false with tear := { pan.tear with state := .closed, estimate := 5 } }
     (on r).tearTerm 0 = some 5 ∧ (on r).idleTerm 0 = 1 ∧ (on pan).tearTerm 0 = none) := by decide

theorem witness_StepsKeepTheInvariants :
    let s := { State.reset with pending := [.runStart 8 false] }
    (s.BusOk ∧ s.PeriodOk ∧ s.SelectsOk ∧ s.SlotOk ∧ s.GatesOk ∧ s.AccountsOk ∧ s.ParkingOk) ∧
    gives (step s) (fun t => t.part = .running) = true := by decide

theorem witness_StepsKeepGateEntriesInOrder :
    let s := { gated with pending := [.gateTimeout] }
    (s.GatesOk ∧ s.ArrivalsOk ∧ s.FlightsOk ∧ s.RequestOk ∧ s.TargetsOk) ∧ (s.gate 0).list = [0] ∧
      (serving (holding fillBody true) .shifting (txOf (.strip 2) .none)).FlightsOk ∧
      gives (step s) (fun t => t.pending.isEmpty) = true := by
  refine ⟨⟨by decide, by decide, by decide, by decide, trivial⟩, by decide, by decide, by decide⟩

theorem witness_StepsKeepLoadsWithinCapacity : State.reset.LoadsOk ∧ ∃ t, step State.reset = .next t := by
  refine ⟨⟨by decide, trivial, by decide⟩, _, rfl⟩

end Sys2Proof.Tests
end

section
/-! PROOFS. The strip planner's rows: the scroll mapping by its bands, and the pieces of a rectangle (R78 to R80). -/
namespace Sys2Proof.Machine

/-! ### The scroll mapping (R78) -/

section
variable {d : Descriptor} {s y : Nat}

/-- A row of the fixed areas is stored where it is shown. -/
theorem Descriptor.memRow_fixed (fixed : y < d.tfa ∨ d.tfa + d.vsa ≤ y) : d.memRow s y = y := if_pos fixed

/-- A row of the scroll area is stored rotated by the offset. -/
theorem Descriptor.memRow_scroll (low : d.tfa ≤ y) (high : y < d.tfa + d.vsa) :
    d.memRow s y = d.tfa + (y - d.tfa + s) % d.vsa := if_neg (by omega)

/-- The second band's row of the table of R80. -/
theorem Descriptor.memRow_before_wrap (low : d.tfa ≤ y) (high : y + s < d.tfa + d.vsa) : d.memRow s y = y + s := by
  rw [Descriptor.memRow_scroll low (by omega), Nat.mod_eq_of_lt (by omega)]
  omega

/-- The third band's row of the table of R80: the rotation has passed the end of the scroll area once. -/
theorem Descriptor.memRow_after_wrap (offset : s ≤ d.vsa) (low : d.tfa + d.vsa ≤ y + s) (high : y < d.tfa + d.vsa) :
    d.memRow s y = y + s - d.vsa := by
  rw [Descriptor.memRow_scroll (by omega) high, Nat.mod_eq_sub_mod (by omega), Nat.mod_eq_of_lt (by omega)]
  omega

/-- A row is fixed, or lies before the wrap, or after it. -/
theorem Descriptor.memRow_cases (offset : s < d.vsa ∨ s = 0) (y : Nat) :
    ((y < d.tfa ∨ d.tfa + d.vsa ≤ y) ∧ d.memRow s y = y) ∨
    (d.tfa ≤ y ∧ y + s < d.tfa + d.vsa ∧ d.memRow s y = y + s) ∨
    (d.tfa + d.vsa ≤ y + s ∧ y < d.tfa + d.vsa ∧ s < d.vsa ∧ d.memRow s y = y + s - d.vsa) := by
  by_cases fixed : y < d.tfa ∨ d.tfa + d.vsa ≤ y
  · exact .inl ⟨fixed, Descriptor.memRow_fixed fixed⟩
  · by_cases wraps : y + s < d.tfa + d.vsa
    · exact .inr (.inl ⟨by omega, wraps, Descriptor.memRow_before_wrap (by omega) wraps⟩)
    · exact .inr (.inr ⟨by omega, by omega, by omega,
        Descriptor.memRow_after_wrap (by omega) (by omega) (by omega)⟩)

/-- Offset 0 leaves every row where it is. -/
theorem Descriptor.memRow_zero (d : Descriptor) (y : Nat) : d.memRow 0 y = y := by
  have := d.memRow_cases (s := 0) (.inr rfl) y
  omega

/-- The panel's rows are stored in the panel's rows. -/
theorem Descriptor.memRow_lt (areas : d.tfa + d.vsa + d.bfa = d.height) (offset : s < d.vsa ∨ s = 0)
    (row : y < d.height) : d.memRow s y < d.height := by
  have := d.memRow_cases offset y
  omega

/-- Two rows stored in one are one row: each case keeps to its own stretch of memory rows, and shifts it as a whole. -/
theorem Descriptor.memRow_injective (offset : s < d.vsa ∨ s = 0) : Function.Injective (d.memRow s) := by
  intro y z same
  have atY := d.memRow_cases offset y
  have atZ := d.memRow_cases offset z
  omega

/-- Inside a band of R80 the memory rows ascend one by one. -/
theorem Descriptor.memRow_add {b : Nat × Nat} {i : Nat} (offset : s < d.vsa ∨ s = 0) (band : b ∈ d.bands s)
    (low : b.1 ≤ y) (high : y + i < b.2) : d.memRow s (y + i) = d.memRow s y + i := by
  simp only [Descriptor.bands, List.mem_cons, List.not_mem_nil, or_false] at band
  obtain rfl | rfl | rfl | rfl := band
  case inl =>
    rw [Descriptor.memRow_fixed (.inl high), Descriptor.memRow_fixed (.inl (by omega))]
  case inr.inl =>
    rw [Descriptor.memRow_before_wrap (by omega) (by omega), Descriptor.memRow_before_wrap low (by omega)]
    omega
  case inr.inr.inl =>
    rw [Descriptor.memRow_after_wrap (by omega) (by omega) high,
      Descriptor.memRow_after_wrap (by omega) (by omega) (by omega)]
    omega
  case inr.inr.inr =>
    rw [Descriptor.memRow_fixed (.inr (by omega)), Descriptor.memRow_fixed (.inr low)]

end

/-! ### Runs of bands and of pieces -/

/-- The bands follow one another from row lo up to, and not including, row hi. -/
def BandsRun : Nat → List (Nat × Nat) → Nat → Prop
  | lo, [], hi => lo = hi
  | lo, b :: bs, hi => b.1 = lo ∧ b.1 ≤ b.2 ∧ BandsRun b.2 bs hi

/-- The pieces follow one another from row lo up to, and not including, row hi, and none is empty. -/
def PiecesRun : Nat → List Piece → Nat → Prop
  | lo, [], hi => lo = hi
  | lo, pc :: ps, hi => pc.logical = lo ∧ 1 ≤ pc.rows ∧ PiecesRun (pc.logical + pc.rows) ps hi

/-- The bands of R80 are the panel's rows in order. -/
theorem Descriptor.bandsRun (d : Descriptor) (s : Nat) (areas : d.tfa + d.vsa + d.bfa = d.height) :
    BandsRun 0 (d.bands s) d.height :=
  ⟨rfl, Nat.zero_le _, rfl, Nat.le_add_right .., rfl, Nat.add_le_add_left (Nat.sub_le ..) _, rfl,
    areas ▸ Nat.le_add_right .., rfl⟩

section
variable {lo hi : Nat} {ps : List Piece}

/-- The row counts of a run add up to its length. -/
theorem PiecesRun.sum_rows (run : PiecesRun lo ps hi) : lo + (ps.map (·.rows)).sum = hi := by
  induction ps generalizing lo with
  | nil => exact run
  | cons pc ps ih =>
    obtain ⟨start, -, tail⟩ := run
    have := ih tail
    simp only [List.map_cons, List.sum_cons]
    omega

/-- The first piece of a run begins where the run does. -/
theorem PiecesRun.head_logical (run : PiecesRun lo ps hi) {pc : Piece} (first : ps.head? = some pc) :
    pc.logical = lo := by
  cases ps with
  | nil => cases first
  | cons p ps =>
    cases first
    exact run.1

/-- Each piece of a run begins where the one before it ends. -/
theorem PiecesRun.next_logical (run : PiecesRun lo ps hi) {i : Nat} {pc next : Piece} (at_i : ps[i]? = some pc)
    (after : ps[i + 1]? = some next) : next.logical = pc.logical + pc.rows := by
  induction ps generalizing lo i with
  | nil => cases at_i
  | cons p ps ih =>
    obtain ⟨-, -, tail⟩ := run
    cases i with
    | zero =>
      cases at_i
      exact tail.head_logical (List.head?_eq_getElem?.trans after)
    | succ i => exact ih tail at_i after

/-- A run of at least one row has a piece. -/
theorem PiecesRun.length_pos (run : PiecesRun lo ps hi) (rows : lo < hi) : 1 ≤ ps.length := by
  cases ps with
  | nil => exact absurd run (Nat.ne_of_lt rows)
  | cons pc ps => exact Nat.succ_pos _

end

/-! ### Pieces (R80) -/

/-- The piece that one band gives: what `Descriptor.pieces` does with each band. -/
def Descriptor.bandPiece (d : Descriptor) (s y h : Nat) (b : Nat × Nat) : Option Piece :=
  if max y b.1 < min (y + h) b.2 then
    some { logical := max y b.1, mem := d.memRow s (max y b.1), rows := min (y + h) b.2 - max y b.1 }
  else none

section
variable {d : Descriptor} {s y h : Nat}

theorem Descriptor.pieces_eq_filterMap : d.pieces s y h = (d.bands s).filterMap (d.bandPiece s y h) := rfl

/-- A band gives a piece when the rectangle reaches it, and then their common rows. -/
theorem Descriptor.bandPiece_eq_some {b : Nat × Nat} {pc : Piece} :
    d.bandPiece s y h b = some pc ↔ max y b.1 < min (y + h) b.2 ∧ pc = {
      logical := max y b.1, mem := d.memRow s (max y b.1), rows := min (y + h) b.2 - max y b.1 } := by
  rw [Descriptor.bandPiece, Option.ite_none_right_eq_some, Option.some_inj, eq_comm (a := pc)]

theorem Descriptor.bandPiece_eq_none {b : Nat × Nat} (missed : ¬ max y b.1 < min (y + h) b.2) :
    d.bandPiece s y h b = none := if_neg missed

/-- The pieces are those of the bands that the rectangle reaches. -/
theorem Descriptor.mem_pieces {pc : Piece} :
    pc ∈ d.pieces s y h ↔ ∃ b ∈ d.bands s, max y b.1 < min (y + h) b.2 ∧ pc = {
      logical := max y b.1, mem := d.memRow s (max y b.1), rows := min (y + h) b.2 - max y b.1 } := by
  simp only [Descriptor.pieces_eq_filterMap, List.mem_filterMap, Descriptor.bandPiece_eq_some]

/-- Bands that follow one another give pieces that follow one another: the run of the bands, cut to the rectangle's rows. -/
theorem Descriptor.piecesRun_filterMap {bs : List (Nat × Nat)} {lo hi : Nat} (run : BandsRun lo bs hi) :
    PiecesRun (min (max y lo) (y + h)) (bs.filterMap (d.bandPiece s y h)) (min (max y hi) (y + h)) := by
  induction bs generalizing lo with
  | nil => exact congrArg (fun row => min (max y row) (y + h)) run
  | cons b bs ih =>
    obtain ⟨rfl, ordered, tail⟩ := run
    have rest := ih tail
    by_cases reached : max y b.1 < min (y + h) b.2
    · rw [List.filterMap_cons_some (Descriptor.bandPiece_eq_some.2 ⟨reached, rfl⟩)]
      have stop : max y b.1 + (min (y + h) b.2 - max y b.1) = min (max y b.2) (y + h) := by omega
      exact ⟨by dsimp only; omega, by dsimp only; omega, stop ▸ rest⟩
    · rw [List.filterMap_cons_none (Descriptor.bandPiece_eq_none reached)]
      have skip : min (max y b.1) (y + h) = min (max y b.2) (y + h) := by omega
      exact skip ▸ rest

/-- The pieces of a rectangle on the panel are its rows in order. -/
theorem Descriptor.piecesRun (areas : d.tfa + d.vsa + d.bfa = d.height) (inside : y + h ≤ d.height) :
    PiecesRun y (d.pieces s y h) (y + h) := by
  have run := Descriptor.piecesRun_filterMap (d := d) (s := s) (y := y) (h := h) (d.bandsRun s areas)
  rwa [Nat.max_zero, Nat.min_eq_left (Nat.le_add_right y h), Nat.min_eq_right (by omega)] at run

theorem Descriptor.length_pieces_le : (d.pieces s y h).length ≤ 4 := List.length_filterMap_le _ (d.bands s)

/-- A piece has a row, and its memory rows ascend one by one. -/
theorem Descriptor.pieces_ascend (offset : s < d.vsa ∨ s = 0) {pc : Piece} (piece : pc ∈ d.pieces s y h) :
    1 ≤ pc.rows ∧ ∀ i, i < pc.rows → d.memRow s (pc.logical + i) = pc.mem + i := by
  obtain ⟨b, band, reached, rfl⟩ := Descriptor.mem_pieces.1 piece
  refine ⟨Nat.sub_pos_of_lt reached, fun i inPiece => ?_⟩
  dsimp only at inPiece
  have inBand : max y b.1 + i < b.2 := by omega
  exact Descriptor.memRow_add offset band (Nat.le_max_right ..) inBand

end

/-- Settles O45: the mapping by its cases, the pieces as the run of the bands cut to the rectangle. -/
theorem piecesCoverTheRectangleInOrder : Obligations.PiecesCoverTheRectangleInOrder := by
  intro d s areas offset
  refine ⟨fun y => Descriptor.memRow_fixed, fun y => Descriptor.memRow_scroll, fun y => Descriptor.memRow_lt areas offset,
    fun y z _ _ same => Descriptor.memRow_injective offset same, d.memRow_zero, fun y h rows inside => ?_⟩
  have run : PiecesRun y (d.pieces s y h) (y + h) := Descriptor.piecesRun areas inside
  exact ⟨run.length_pos (by omega), Descriptor.length_pieces_le, Nat.add_left_cancel run.sum_rows,
    fun _ => run.head_logical, fun _ _ _ => run.next_logical, fun _ => Descriptor.pieces_ascend offset,
    fun _ => Descriptor.mem_pieces⟩

end Sys2Proof.Machine
end

section
/-! PROOFS. Pixel conversion: widening, narrowing, and the bytes of a converted row (R85, R89 to R91). -/
namespace Sys2Proof.Machine

/-! ### Bytes of lists -/

/-- A byte of the first list. -/
theorem byteAt_append_left {as : List Byte} {i : Nat} (inside : i < as.length) (bs : List Byte) :
    byteAt (as ++ bs) i = byteAt as i := by
  rw [byteAt, List.getElem?_append_left inside, byteAt]

/-- A byte past the first list. -/
theorem byteAt_append_right (as bs : List Byte) (i : Nat) : byteAt (as ++ bs) (as.length + i) = byteAt bs i := by
  rw [byteAt, List.getElem?_append_right (Nat.le_add_right ..), Nat.add_sub_cancel_left, byteAt]

/-! ### Widening and narrowing (R91) -/

/-- A component of 5 bits is followed by its own top 3. -/
theorem widen_five {v : Nat} (bits : v < 32) : (widen 5 v).toNat = v * 8 + v / 4 := by
  rw [widen, if_neg (by decide), BitVec.toNat_ofNat]
  exact Nat.mod_eq_of_lt (by omega)

/-- A component of 6 bits is followed by its own top 2. -/
theorem widen_six {v : Nat} (bits : v < 64) : (widen 6 v).toNat = v * 4 + v / 16 := by
  rw [widen, if_neg (by decide), BitVec.toNat_ofNat]
  exact Nat.mod_eq_of_lt (by omega)

/-- The top 5 bits of a widened component of 5 bits are the component. -/
theorem narrow_five {v : Nat} (bits : v < 32) : (v * 8 + v / 4) / 8 = v := by omega

/-- The top 6 bits of a widened component of 6 bits are the component. -/
theorem narrow_six {v : Nat} (bits : v < 64) : (v * 4 + v / 16) / 4 = v := by omega

/-- The components of an S16 pixel, widened (R89). -/
theorem srcPixel_s16_toNat (lo hi : Byte) :
    let v := lo.toNat + 256 * hi.toNat
    let c := srcPixel .s16 [lo, hi]
    c.r.toNat = v / 2048 * 8 + v / 2048 / 4 ∧ c.g.toNat = v / 32 % 64 * 4 + v / 32 % 64 / 16 ∧
    c.b.toNat = v % 32 * 8 + v % 32 / 4 := by
  intro v c
  have bound : v < 65536 := by
    have := lo.isLt
    have := hi.isLt
    omega
  exact ⟨widen_five (v := v / 2048) (by omega), widen_six (v := v / 32 % 64) (by omega),
    widen_five (v := v % 32) (by omega)⟩

/-- The 5:6:5 value that P16 sends for a colour (R90). -/
def Rgb.packed (c : Rgb) : Nat := c.r.toNat / 8 * 2048 + c.g.toNat / 4 * 32 + c.b.toNat / 8

/-- P16 sends the value's upper byte first. -/
theorem Rgb.toPanel_p16 (c : Rgb) :
    c.toPanel .p16 = [BitVec.ofNat 8 (c.packed / 256), BitVec.ofNat 8 (c.packed % 256)] := by
  have low : BitVec.ofNat 8 (c.packed % 256) = BitVec.ofNat 8 c.packed := by
    apply BitVec.eq_of_toNat_eq
    simp
  rw [low]
  rfl

/-- Narrowing takes back the widening: an S16 pixel packs to its own value. -/
theorem packed_srcPixel_s16 (lo hi : Byte) : (srcPixel .s16 [lo, hi]).packed = lo.toNat + 256 * hi.toNat := by
  obtain ⟨red, green, blue⟩ := srcPixel_s16_toNat lo hi
  have low : lo.toNat < 256 := lo.isLt
  have high : hi.toNat < 256 := hi.isLt
  rw [Rgb.packed, red, green, blue, narrow_five (by omega), narrow_six (by omega), narrow_five (by omega)]
  omega

/-- S16 to P16 passes a pixel unchanged, the byte with red first. -/
theorem toPanel_p16_srcPixel_s16 (lo hi : Byte) : (srcPixel .s16 [lo, hi]).toPanel .p16 = [hi, lo] := by
  have low : lo.toNat < 256 := lo.isLt
  have upper : (lo.toNat + 256 * hi.toNat) / 256 = hi.toNat := by omega
  have lower : (lo.toNat + 256 * hi.toNat) % 256 = lo.toNat := by omega
  rw [Rgb.toPanel_p16, packed_srcPixel_s16, upper, lower, BitVec.ofNat_toNat, BitVec.ofNat_toNat,
    BitVec.setWidth_eq, BitVec.setWidth_eq]

/-! ### Converted rows (R85) -/

/-- A colour takes its format's bytes. -/
theorem Rgb.length_toPanel (c : Rgb) (f : PixFmt) : (c.toPanel f).length = f.bpp := by
  cases f <;> rfl

theorem length_convertPixels (src : SrcFmt) (dst : PixFmt) (n : Nat) (bs : List Byte) :
    (convertPixels src dst n bs).length = n * dst.bpp := by
  induction n generalizing bs with
  | zero => exact (Nat.zero_mul _).symm
  | succ n ih => rw [convertPixels, List.length_append, Rgb.length_toPanel, ih, Nat.succ_mul, Nat.add_comm]

/-- Pixel i of a converted row depends on the bytes of source pixel i alone. -/
theorem byteAt_convertPixels (src : SrcFmt) (dst : PixFmt) {n i j : Nat} (bs : List Byte) (pixel : i < n)
    (byte : j < dst.bpp) :
    byteAt (convertPixels src dst n bs) (i * dst.bpp + j) =
      byteAt ((srcPixel src (bs.drop (i * src.bytes))).toPanel dst) j := by
  induction n generalizing i bs with
  | zero => exact absurd pixel (Nat.not_lt_zero i)
  | succ n ih =>
    rw [convertPixels]
    cases i with
    | zero =>
      rw [Nat.zero_mul, Nat.zero_add, byteAt_append_left (by rwa [Rgb.length_toPanel]), Nat.zero_mul, List.drop_zero]
    | succ i =>
      have past : (i + 1) * dst.bpp + j = ((srcPixel src bs).toPanel dst).length + (i * dst.bpp + j) := by
        rw [Rgb.length_toPanel, Nat.succ_mul]
        omega
      rw [past, byteAt_append_right, ih _ (Nat.lt_of_succ_lt_succ pixel), List.drop_drop, Nat.succ_mul,
        Nat.add_comm src.bytes]

/-- Settles O46: the components by the widths' cases, the rows by induction on their pixels. -/
theorem pixelsKeepTheirColour : Obligations.PixelsKeepTheirColour :=
  ⟨srcPixel_s16_toNat, fun _ _ _ _ => ⟨rfl, rfl⟩, fun c => ⟨c.toPanel_p16, rfl⟩,
    fun d bs _ _ => byteAt_convertPixels d.src d.dst bs, toPanel_p16_srcPixel_s16, fun _ _ _ => rfl,
    fun _ _ _ _ => rfl, fun _ => rfl, by decide, Rgb.length_toPanel,
    fun d bs => length_convertPixels d.src d.dst d.width bs⟩

end Sys2Proof.Machine
end

section
/-! PROOFS. What the proofs about tear tracking read the model through, said once: a step taken by every slot in turn,
the TE pins, the conditioner, the TE event, QUALIFIED_EDGE, and PERIOD_BOUNDARY on one slot (R96 to R102, R113). -/
namespace Sys2Proof.Machine

/-! ### A step of every slot in turn -/

/-- When a slot's step shows in no other slot's view, the slots' steps in turn give each listed slot its own step. -/
theorem foldl_each {β : Type} (view : PanelId → State → β) (f : State → PanelId → State) (g : PanelId → β → β)
    (own : ∀ s p, view p (f s p) = g p (view p s)) (other : ∀ s p q, q ≠ p → view q (f s p) = view q s)
    (ps : List PanelId) (once : ps.Nodup) (s : State) (q : PanelId) :
    view q (ps.foldl f s) = if q ∈ ps then g q (view q s) else view q s := by
  induction ps generalizing s with
  | nil => simp
  | cons p rest ih =>
    obtain ⟨fresh, once⟩ := List.nodup_cons.mp once
    rw [List.foldl_cons, ih once]
    by_cases h : q = p
    · subst h
      simp [fresh, own]
    · simp [h, other s p q h]

/-- The sixteen slots' steps in turn give every slot its own step. -/
theorem foldl_allPanels {β : Type} (view : PanelId → State → β) (f : State → PanelId → State) (g : PanelId → β → β)
    (own : ∀ s p, view p (f s p) = g p (view p s)) (other : ∀ s p q, q ≠ p → view q (f s p) = view q s)
    (s : State) (q : PanelId) : view q (allPanels.foldl f s) = g q (view q s) := by
  rw [foldl_each view f g own other allPanels allPanels_nodup, if_pos (mem_allPanels q)]

/-! ### The TE pins -/

theorem hasPanel_panelBit (p q : PanelId) : hasPanel (panelBit p) q = (q == p) := by
  simpa [hasPanel] using hasPanel_or_panelBit 0 p q

/-- A TE pin taking a level changes the pins alone, and of them the TE levels. -/
@[simp] theorem State.setTePin_frame (s : State) (p : PanelId) (level : Bool) :
    (s.setTePin p level).part = s.part ∧ (s.setTePin p level).timer = s.timer ∧ (s.setTePin p level).ctl = s.ctl ∧
    (s.setTePin p level).tol = s.tol ∧ (s.setTePin p level).port = s.port ∧
    (s.setTePin p level).panels = s.panels ∧ (s.setTePin p level).profiles = s.profiles ∧
    (s.setTePin p level).lanes = s.lanes ∧ (s.setTePin p level).gates = s.gates ∧
    (s.setTePin p level).freeCount = s.freeCount ∧ (s.setTePin p level).pending = s.pending ∧
    (s.setTePin p level).pins.throttle = s.pins.throttle ∧ (s.setTePin p level).pins.tolAccept = s.pins.tolAccept ∧
    ∀ q : PanelId, (s.setTePin p level).panel q = s.panel q := by
  simp [State.setTePin]

/-- The TE levels after one pin has taken a level. -/
theorem State.hasPanel_setTePin (s : State) (p q : PanelId) (level : Bool) :
    hasPanel (s.setTePin p level).pins.te q = if q = p then level else hasPanel s.pins.te q := by
  cases level <;> by_cases h : q = p <;>
    simp [State.setTePin, hasPanel_or_panelBit, hasPanel_and_not, hasPanel_panelBit, h]

/-! ### The conditioner (R96, R97) -/

theorem Channel.edgeDue_iff (c : Channel) (level : Bool) :
    c.edgeDue level = true ↔
      level ≠ c.qualified ∧ (c.filter = .none ∨ ∃ n, c.filter.samples = some n ∧ n ≤ c.run + 1) := by
  unfold Channel.edgeDue
  cases c.filter <;> simp [TeFilter.samples]

theorem TeEdge.matches_iff (e : TeEdge) (level : Bool) :
    e.matches level = true ↔ e = .rising ∧ level = true ∨ e = .falling ∧ level = false ∨ e = .both := by
  cases e <;> simp [TeEdge.matches]

theorem Panel.bound_iff (r : Panel) : r.bound = true ↔ r.state ≠ .unbound := by simp [Panel.bound]

theorem State.isTeEvent_iff (s : State) (p : PanelId) (level : Bool) :
    s.isTeEvent p level = true ↔
      (s.panel p).state ≠ .unbound ∧ (s.panel p).desc.policy = .blank ∧ (s.panel p).display = .awake ∧
        s.part = .running ∧ (s.panel p).tear.edge.matches level = true := by
  simp [State.isTeEvent, Panel.bound, and_assoc]

theorem Timer.ending_iff (t : Timer) :
    t.ending = true ↔ ∃ len progress, t.period = some (len, progress) ∧ len ≤ progress + 1 := by
  unfold Timer.ending
  cases h : t.period with
  | none => simp
  | some period =>
    constructor
    · intro short
      exact ⟨period.1, period.2, rfl, of_decide_eq_true short⟩
    · rintro ⟨len, progress, same, short⟩
      cases same
      exact decide_eq_true short

theorem State.meetsBoundary_iff (s : State) (together : Bool) :
    s.meetsBoundary together = true ↔
      together = true ∧ ∃ len progress, s.timer.period = some (len, progress) ∧ len ≤ progress + 1 := by
  rw [State.meetsBoundary, Bool.and_eq_true, Timer.ending_iff]

/-! ### The TE event (R98, R100, R102) -/

theorem Channel.lastHold_iff (c : Channel) : c.lastHold = true ↔ c.state = .opened ∧ c.hold ≤ 1 := by
  simp [Channel.lastHold]

/-- Every field that a TE event writes, in terms of the channel before it. -/
theorem Channel.teEvent_eq (c : Channel) (d : Descriptor) (count : Word) (meets : Bool) :
    c.teEvent d count meets = { c with
      estimate := c.newEstimate (if meets && c.lastHold then count + 1 else count)
      lastTe := count
      base := true
      watch := 0
      armed := decide (0 < d.teWatch)
      state := if c.skipCtr = 0 then .opened else c.state
      budget := if c.skipCtr = 0 then d.budget else c.budget
      hold := if c.skipCtr = 0 then d.hold else c.hold
      skipCtr := (c.skipCtr + 1) % c.skip
      meeting := c.meetingAt d meets } := by
  unfold Channel.teEvent
  by_cases h : c.skipCtr = 0 <;> simp [h]

/-- A TE event that meets the boundary which ends the hold waits for it. -/
theorem Channel.meetingAt_of_lastHold (c : Channel) (d : Descriptor) (h : c.lastHold = true) :
    c.meetingAt d true = .coming (decide (c.skipCtr = 0)) := by
  simp [Channel.meetingAt, h]

/-- So does one that meets the boundary which would bring the watch to a TE watch value of 1. -/
theorem Channel.meetingAt_of_watched (c : Channel) (d : Descriptor) (h : c.lastHold = false) (watch : d.teWatch = 1) :
    c.meetingAt d true = .watched := by
  simp [Channel.meetingAt, h, watch]

/-- Any other TE event waits for no boundary. -/
theorem Channel.meetingAt_of_apart (c : Channel) (d : Descriptor) (meets : Bool)
    (h : ¬ (meets = true ∧ (c.lastHold = true ∨ d.teWatch = 1))) :
    c.meetingAt d meets = if c.skipCtr = 0 then .none else c.meeting := by
  have hold : (meets && c.lastHold) = false := by
    rw [Bool.eq_false_iff, ne_eq, Bool.and_eq_true]
    exact fun ⟨m, l⟩ => h ⟨m, .inl l⟩
  have watch : (meets && decide (d.teWatch = 1)) = false := by
    rw [Bool.eq_false_iff, ne_eq, Bool.and_eq_true, decide_eq_true_eq]
    exact fun ⟨m, w⟩ => h ⟨m, .inr w⟩
  simp [Channel.meetingAt, hold, watch]

/-- A TE event that finds the base clear keeps the estimate. -/
theorem Channel.teEvent_estimate_of_no_base (c : Channel) (d : Descriptor) (count : Word) (meets : Bool)
    (h : c.base = false) : (c.teEvent d count meets).estimate = c.estimate := by
  simp [Channel.teEvent_eq, Channel.newEstimate, h]

/-- A TE event with the skip counter at 0 opens the window. -/
theorem Channel.teEvent_state_of_no_skip (c : Channel) (d : Descriptor) (count : Word) (meets : Bool)
    (h : c.skipCtr = 0) : (c.teEvent d count meets).state = .opened := by
  simp [Channel.teEvent_eq, h]

/-! ### The close of a window (R99, R103, R104) -/

theorem Channel.close_of_opened (c : Channel) (h : c.state = .opened) :
    c.close = { c with state := .closed, budget := 0, hold := 0 } := if_pos h

theorem Channel.close_of_not_opened (c : Channel) (h : c.state ≠ .opened) : c.close = c := if_neg h

/-! ### QUALIFIED_EDGE -/

/-- The channel after its conditioner has accepted an edge. -/
def State.edgeTear (s : State) (p : PanelId) (e : Edge) : Channel :=
  if s.isTeEvent p e.level then
    ((s.panel p).tear.takeLevel e.level).teEvent (s.panel p).desc s.timer.count (s.meetsBoundary e.together)
  else (s.panel p).tear.takeLevel e.level

theorem State.acceptEdge_panel (s : State) (p q : PanelId) (e : Edge) :
    (s.acceptEdge p e).panel q = if q = p then { s.panel p with tear := s.edgeTear p e } else s.panel q := by
  unfold State.acceptEdge State.edgeTear
  by_cases te : s.isTeEvent p e.level = true <;> by_cases h : q = p <;>
    simp [te, h, State.teEvent, State.modPanel_panel]

theorem State.acceptEdge_panel_same (s : State) (p : PanelId) (e : Edge) :
    (s.acceptEdge p e).panel p = { s.panel p with tear := s.edgeTear p e } := by
  rw [State.acceptEdge_panel, if_pos rfl]

/-- An edge that is no TE event leaves its channel with the level accepted. -/
theorem State.acceptEdge_tear_of_not_te (s : State) (p : PanelId) (e : Edge) (h : s.isTeEvent p e.level = false) :
    ((s.acceptEdge p e).panel p).tear = (s.panel p).tear.takeLevel e.level := by
  simp [State.acceptEdge_panel_same, State.edgeTear, h]

/-- One that is a TE event leaves it with the event taken after the level. -/
theorem State.acceptEdge_tear_of_te (s : State) (p : PanelId) (e : Edge) (te : s.isTeEvent p e.level = true) :
    ((s.acceptEdge p e).panel p).tear =
      ((s.panel p).tear.takeLevel e.level).teEvent (s.panel p).desc s.timer.count (s.meetsBoundary e.together) := by
  simp [State.acceptEdge_panel_same, State.edgeTear, te]

/-- An accepted edge changes a panel record, the pins, and the tolerance reporter. -/
@[simp] theorem State.acceptEdge_frame (s : State) (p : PanelId) (e : Edge) :
    (s.acceptEdge p e).part = s.part ∧ (s.acceptEdge p e).timer = s.timer ∧ (s.acceptEdge p e).ctl = s.ctl ∧
    (s.acceptEdge p e).port = s.port ∧ (s.acceptEdge p e).profiles = s.profiles ∧
    (s.acceptEdge p e).lanes = s.lanes ∧ (s.acceptEdge p e).gates = s.gates ∧
    (s.acceptEdge p e).pins = (s.setTePin p e.level).pins ∧ (s.acceptEdge p e).freeCount = s.freeCount ∧
    (s.acceptEdge p e).pending = s.pending := by
  unfold State.acceptEdge
  dsimp only
  split <;> simp [State.teEvent]

/-- An accepted edge that is no TE event leaves the tolerance reporter too. -/
theorem State.acceptEdge_tol (s : State) (p : PanelId) (e : Edge) (h : s.isTeEvent p e.level = false) :
    (s.acceptEdge p e).tol = s.tol := by
  simp [State.acceptEdge, h]

theorem exec_qualifiedEdge_of_due (s : State) (p : PanelId) (e : Edge) (due : (s.panel p).tear.edgeDue e.level = true) :
    exec (.qualifiedEdge p e) s = .next (s.acceptEdge p e) := congrArg Host.Outcome.next (if_pos due)

theorem exec_qualifiedEdge_of_not_due (s : State) (p : PanelId) (e : Edge)
    (due : ¬ (s.panel p).tear.edgeDue e.level = true) : exec (.qualifiedEdge p e) s = .next s :=
  congrArg Host.Outcome.next (if_neg due)

/-! ### PERIOD_BOUNDARY on one slot -/

/-- Link polls keep every view of a panel record that does not show the access. -/
theorem State.issuePolls_panel_keeps {β : Type} (view : Panel → β)
    (blind : ∀ (r : Panel) a, view { r with access := a } = view r) (s : State) (ps : List PanelId) (q : PanelId) :
    view ((s.issuePolls ps).panel q) = view (s.panel q) := by
  unfold State.issuePolls
  rw [foldl_keeps (fun s => view (s.panel q)) State.issuePoll, State.useFree_panel]
  intro s p
  unfold State.issuePoll
  split
  · rfl
  · rw [State.takeChainRead_panel, State.modPanel_panel]
    split
    · next h => rw [blind, h]
    · rfl

/-- The period timer's and the slots' part of a boundary. -/
def State.boundaryPanels (s : State) : State :=
  allPanels.foldl (fun s p => s.modPanel p fun r => r.boundary p s.timer.count)
    (s.setTimer (s.timer.boundary s.ctl.units))

/-- Then the lanes' and the gate entries' part. -/
def State.boundaryBlocks (s : State) : State :=
  allGates.foldl (fun s g => s.setGate g (s.gate g).boundary)
    (allLanes.foldl (fun s l => s.modLane l Lane.boundary) s.boundaryPanels)

theorem State.boundary_eq (s : State) : s.boundary =
    (s.boundaryBlocks.issuePolls (s.setTimer (s.timer.boundary s.ctl.units)).duePolls).recompute := rfl

theorem State.boundaryPanels_panel (s : State) (q : PanelId) :
    s.boundaryPanels.panel q = (s.panel q).boundary q (s.timer.count + 1) := by
  have each := foldl_allPanels (fun q s => (s.timer.count, s.panel q))
    (fun s p => s.modPanel p fun r => r.boundary p s.timer.count) (fun p x => (x.1, x.2.boundary p x.1))
    (fun s p => by simp) (fun s p q h => by simp [State.modPanel_panel_ne s h])
    (s.setTimer (s.timer.boundary s.ctl.units)) q
  exact congrArg Prod.snd each

/-- What shows no panel record shows of the slots' part the new timer alone. -/
theorem State.boundaryPanels_keeps {β : Type} (view : State → β) (blind : ∀ s p r, view (State.setPanel s p r) = view s)
    (s : State) : view s.boundaryPanels = view (s.setTimer (s.timer.boundary s.ctl.units)) :=
  foldl_keeps view _ (fun s p => blind s p _) allPanels _

/-- What shows neither lanes nor gate entries is as the slots' part leaves it. -/
theorem State.boundaryBlocks_keeps {β : Type} (view : State → β) (lane : ∀ s l r, view (State.setLane s l r) = view s)
    (gate : ∀ s g r, view (State.setGate s g r) = view s) (s : State) : view s.boundaryBlocks = view s.boundaryPanels :=
  (foldl_keeps view _ (fun s g => gate s g _) allGates _).trans (foldl_keeps view _ (fun s l => lane s l _) allLanes _)

theorem State.boundaryBlocks_panel (s : State) (q : PanelId) :
    s.boundaryBlocks.panel q = (s.panel q).boundary q (s.timer.count + 1) := by
  rw [State.boundaryBlocks_keeps (·.panel q) (fun _ _ _ => rfl) (fun _ _ _ => rfl), State.boundaryPanels_panel]

/-- The blocks' steps leave part state and control port, and write the timer once. -/
theorem State.boundaryBlocks_frame (s : State) :
    s.boundaryBlocks.part = s.part ∧ s.boundaryBlocks.ctl = s.ctl ∧
    s.boundaryBlocks.timer = s.timer.boundary s.ctl.units := by
  have outer := (State.boundaryBlocks_keeps (fun s => (s.part, s.ctl, s.timer)) (fun _ _ _ => rfl) (fun _ _ _ => rfl)
    s).trans (State.boundaryPanels_keeps (fun s => (s.part, s.ctl, s.timer)) (fun _ _ _ => rfl) s)
  simpa using outer

@[simp] theorem State.boundary_part (s : State) : s.boundary.part = s.part := by
  simp [State.boundary_eq, State.boundaryBlocks_frame]

@[simp] theorem State.boundary_ctl (s : State) : s.boundary.ctl = s.ctl := by
  simp [State.boundary_eq, State.boundaryBlocks_frame]

@[simp] theorem State.boundary_timer (s : State) : s.boundary.timer = s.timer.boundary s.ctl.units := by
  simp [State.boundary_eq, State.boundaryBlocks_frame]

/-- What a panel record shows after a boundary, its access aside: the polls change that alone. -/
theorem State.boundary_panel_keeps {β : Type} (view : Panel → β)
    (blind : ∀ (r : Panel) a, view { r with access := a } = view r) (s : State) (q : PanelId) :
    view (s.boundary.panel q) = view ((s.panel q).boundary q (s.timer.count + 1)) := by
  have closing : s.boundary.panel q =
      (s.boundaryBlocks.issuePolls (s.setTimer (s.timer.boundary s.ctl.units)).duePolls).panel q := by
    simp [State.boundary_eq]
  rw [closing, State.issuePolls_panel_keeps view blind, State.boundaryBlocks_panel]

/-- A boundary leaves a slot's state, descriptor copy, display sub-state and fault code. -/
@[simp] theorem Panel.boundary_frame (r : Panel) (p : PanelId) (count : Word) :
    (r.boundary p count).state = r.state ∧ (r.boundary p count).desc = r.desc ∧
    (r.boundary p count).display = r.display ∧ (r.boundary p count).fault = r.fault := by
  unfold Panel.boundary
  split <;> simp

/-- So do the polls that follow it. -/
@[simp] theorem State.boundary_panel_frame (s : State) (q : PanelId) :
    (s.boundary.panel q).state = (s.panel q).state ∧ (s.boundary.panel q).desc = (s.panel q).desc ∧
    (s.boundary.panel q).display = (s.panel q).display ∧ (s.boundary.panel q).fault = (s.panel q).fault := by
  refine ⟨?_, ?_, ?_, ?_⟩
  · simp [State.boundary_panel_keeps (·.state) (fun _ _ => rfl)]
  · simp [State.boundary_panel_keeps (·.desc) (fun _ _ => rfl)]
  · simp [State.boundary_panel_keeps (·.display) (fun _ _ => rfl)]
  · simp [State.boundary_panel_keeps (·.fault) (fun _ _ => rfl)]

/-- The channel of a bound slot after a boundary. -/
theorem State.boundary_tear (s : State) (q : PanelId) (bound : (s.panel q).state ≠ .unbound) :
    (s.boundary.panel q).tear =
      (s.panel q).tear.boundary (s.panel q).desc (decide ((s.panel q).display = .awake)) := by
  rw [State.boundary_panel_keeps (·.tear) (fun _ _ => rfl)]
  simp [Panel.boundary, (s.panel q).bound_iff.mpr bound]

theorem exec_periodBoundary_of_ending (s : State) (running : s.part = .running) (ending : s.timer.ending = true) :
    exec .periodBoundary s = .next s.boundary := by
  refine congrArg Host.Outcome.next (if_pos ?_)
  simp [running, ending]

theorem exec_periodBoundary_of_not_running (s : State) (h : s.part ≠ .running) :
    exec .periodBoundary s = .next s := by
  refine congrArg Host.Outcome.next (if_neg ?_)
  simp [h]

end Sys2Proof.Machine
end

section
/-! PROOFS. RUN going to 0: the write windows close and the estimate bases are cleared (R103). -/
namespace Sys2Proof.Machine

theorem Channel.stop_of_opened (c : Channel) (h : c.state = .opened) :
    c.stop = { c with state := .closed, budget := 0, hold := 0, base := false, meeting := .none } := by
  rw [Channel.stop, Channel.close_of_opened c h]

theorem Channel.stop_of_not_opened (c : Channel) (h : c.state ≠ .opened) :
    c.stop = { c with base := false, meeting := .none } := by
  rw [Channel.stop, Channel.close_of_not_opened c h]

theorem State.stopRun_panel (s : State) (q : PanelId) :
    s.stopRun.panel q = { s.panel q with tear := (s.panel q).tear.stop } := by
  have each := foldl_allPanels (fun q s => s.panel q)
    (fun s p => s.modPanel p fun r => { r with tear := r.tear.stop }) (fun _ r => { r with tear := r.tear.stop })
    (fun s p => by simp) (fun s p q h => by simp [State.modPanel_panel_ne s h])
    ((s.setPart .stopped).setTimer { s.timer with period := none }) q
  simpa [State.stopRun] using each

/-- What shows neither panel records nor the tolerance reporter shows of a stop the part state and the timer alone. -/
theorem State.stopRun_keeps {β : Type} (view : State → β) (panel : ∀ s p r, view (State.setPanel s p r) = view s)
    (level : ∀ s, view (State.recompute s) = view s) (s : State) :
    view s.stopRun = view ((s.setPart .stopped).setTimer { s.timer with period := none }) :=
  (level _).trans (foldl_keeps view _ (fun s p => panel s p _) allPanels _)

theorem exec_runStop_of_running (units : BitVec 6) (en : Bool) (s : State) (running : s.part = .running) :
    exec (.runStop units en) s = .next ((s.setUnits units).setTolEnable en).stopRun := by
  refine congrArg Host.Outcome.next (if_pos ?_)
  simp [State.setUnits, running]

/-- A stop changes part state, timer, control port, tolerance reporter and panel records. -/
theorem State.stopRun_after_writes (units : BitVec 6) (en : Bool) (s t : State)
    (h : t = ((s.setUnits units).setTolEnable en).stopRun) :
    t = { s with part := t.part, timer := t.timer, ctl := t.ctl, tol := t.tol, panels := t.panels } := by
  have kept : (t.port, t.profiles, t.lanes, t.gates, t.pins, t.freeCount, t.pending) =
      (s.port, s.profiles, s.lanes, s.gates, s.pins, s.freeCount, s.pending) := by
    rw [h, State.stopRun_keeps
      (fun s => (s.port, s.profiles, s.lanes, s.gates, s.pins, s.freeCount, s.pending)) (by simp) (by simp)]
    simp [State.setUnits]
  simp only [Prod.mk.injEq] at kept
  obtain ⟨port, profiles, lanes, gates, pins, freeCount, pending⟩ := kept
  exact State.eq_of_fields rfl rfl rfl rfl port rfl profiles lanes gates pins freeCount pending

/-- Settles O8: the stop slot by slot, the part state for STOPPED, and the TE event's own equations for a clear base. -/
theorem runStopClosesWriteWindows : Obligations.RunStopClosesWriteWindows := by
  refine ⟨fun units en s running => ?_, fun s stopped => ⟨?_, fun p level => ?_⟩,
    fun p level together s due te base => ?_⟩
  · refine ⟨_, exec_runStop_of_running units en s running, fun p => ?_, State.stopRun_after_writes units en s _ rfl⟩
    have stopped : (((s.setUnits units).setTolEnable en).stopRun).panel p =
        { s.panel p with tear := (s.panel p).tear.stop } := by
      rw [State.stopRun_panel]
      simp [State.setUnits]
    rw [stopped]
    refine ⟨rfl, fun opened => ?_, fun notOpened => ?_⟩
    · simp [Channel.stop_of_opened _ opened]
    · simp [Channel.stop_of_not_opened _ notOpened]
  · exact exec_periodBoundary_of_not_running s (by simp [stopped])
  · rw [Bool.eq_false_iff, ne_eq, State.isTeEvent_iff]
    simp [stopped]
  · refine ⟨_, exec_qualifiedEdge_of_due s p ⟨level, together⟩ due, ?_⟩
    rw [State.acceptEdge_tear_of_te s p _ te]
    exact ⟨Channel.teEvent_estimate_of_no_base _ _ _ _ base,
      fun noSkip => Channel.teEvent_state_of_no_skip _ _ _ _ noSkip⟩

end Sys2Proof.Machine
end

section
/-! PROOFS. RETUNE_TE: its target, its fields, and the settings it replaces (R32, R109, R172). -/
namespace Sys2Proof.Machine

/-- The edge setting of a field value below 3. -/
theorem edgeOf_of_lt {n : Nat} (h : n < 3) :
    edgeOf n = some (if n = 0 then .rising else if n = 1 then .falling else .both) := by
  match n, h with
  | 0, _ => rfl
  | 1, _ => rfl
  | 2, _ => rfl

/-- The filter setting of a two-bit field. -/
theorem filterOf_of_lt {n : Nat} (h : n < 4) :
    filterOf n = some (if n = 0 then .none else if n = 1 then .two else if n = 2 then .four else .eight) := by
  match n, h with
  | 0, _ => rfl
  | 1, _ => rfl
  | 2, _ => rfl
  | 3, _ => rfl

theorem exec_retuneTe_of_accepts (s : State) (target : Byte) (h : s.Accepts) :
    exec (.retuneTe target) s =
      .next (startRetuneTe target s.ctl.arg (s.setCtl (s.ctl.accepted 0x16 target))) :=
  congrArg Host.Outcome.next (State.request_accepts s _ target startRetuneTe h)

/-- The record after a retune: new settings, the pin's level, an UNTRACKED channel (R109). -/
theorem State.retune_panel_same (s : State) (p : PanelId) (e : TeEdge) (f : TeFilter) (skip : Nat) :
    (s.retune p e f skip).panel p = { s.panel p with tear := { (s.panel p).tear with
      edge := e, filter := f, skip := skip, qualified := s.tePin p, run := 0, state := .untracked, budget := 0
      hold := 0, skipCtr := 0, watch := 0, armed := decide (0 < (s.panel p).desc.teWatch), estimate := 0
      base := false, meeting := .none } } := State.modPanel_panel_same s p _

/-- An accepted RETUNE_TE that completes at once ends with its result. -/
theorem endsWith_retuneTe (s : State) (target : Byte) (r : Result) (h : s.Accepts)
    (ends : startRetuneTe target s.ctl.arg (s.setCtl (s.ctl.accepted 0x16 target)) =
      (s.setCtl (s.ctl.accepted 0x16 target)).complete r) : EndsWith (.retuneTe target) s r :=
  ⟨_, (exec_retuneTe_of_accepts s target h).trans (congrArg Host.Outcome.next ends), rfl, rfl⟩

section
variable (s : State) (p : PanelId) (arg : Word)

theorem startRetuneTe_out (target : Byte) (h : 16 ≤ target.toNat) : startRetuneTe target arg s = s.complete .badField :=
  State.withPanel_out s target h _

theorem startRetuneTe_unbound (h : (s.panel p).state = .unbound) :
    startRetuneTe (targetOf p) arg s = s.complete .notBound := by
  rw [startRetuneTe, State.withPanel_targetOf]
  simp [Panel.bound, h]

/-- Fields with a setting each and a skip from 1 to 4 are taken. -/
theorem startRetuneTe_taken (bound : (s.panel p).state ≠ .unbound) {e : TeEdge} {f : TeFilter}
    (edge : edgeOf (arg.extractLsb' 0 2).toNat = some e) (filter : filterOf (arg.extractLsb' 4 2).toNat = some f)
    (skip : 1 ≤ (arg.extractLsb' 8 3).toNat ∧ (arg.extractLsb' 8 3).toNat ≤ 4) :
    startRetuneTe (targetOf p) arg s = ((s.retune p e f (arg.extractLsb' 8 3).toNat).complete .ok).recompute := by
  rw [startRetuneTe, State.withPanel_targetOf, if_neg (by simp [Panel.bound, bound])]
  dsimp only
  rw [edge, filter]
  exact if_pos skip

/-- Edge code 3 has no setting, and a skip is 1 to 4. -/
theorem startRetuneTe_badField (bound : (s.panel p).state ≠ .unbound)
    (bad : (arg.extractLsb' 0 2).toNat = 3 ∨ (arg.extractLsb' 8 3).toNat = 0 ∨ 4 < (arg.extractLsb' 8 3).toNat) :
    startRetuneTe (targetOf p) arg s = s.complete .badField := by
  rw [startRetuneTe, State.withPanel_targetOf, if_neg (by simp [Panel.bound, bound])]
  dsimp only
  split
  · next e f edge filter =>
    refine if_neg fun ⟨low, high⟩ => ?_
    have noEdge : (arg.extractLsb' 0 2).toNat = 3 := by omega
    simp [noEdge, edgeOf] at edge
  · rfl

end

/-- Settles O22: the target, then the slot's state, then the fields; settings that are all listed are taken. -/
theorem retuneTeReplacesTheSettings : Obligations.RetuneTeReplacesTheSettings := by
  intro s accepts
  refine ⟨fun target out => endsWith_retuneTe s target _ accepts (startRetuneTe_out _ _ target out), fun p => ?_⟩
  intro edge filter skip
  refine ⟨fun unbound => endsWith_retuneTe s _ _ accepts (startRetuneTe_unbound _ p _ unbound),
    fun bound bad => endsWith_retuneTe s _ _ accepts (startRetuneTe_badField _ p _ bound bad), fun bound good => ?_⟩
  have edgeWidth : edge < 4 := (s.ctl.arg.extractLsb' 0 2).isLt
  have filterWidth : filter < 4 := (s.ctl.arg.extractLsb' 4 2).isLt
  have taken := startRetuneTe_taken (s.setCtl (s.ctl.accepted 0x16 (targetOf p))) p s.ctl.arg bound
    (edgeOf_of_lt (by omega)) (filterOf_of_lt filterWidth) (by omega)
  refine ⟨_, (exec_retuneTe_of_accepts s _ accepts).trans (congrArg Host.Outcome.next taken), ?_, ?_, ?_, ?_⟩
  · apply State.eq_of_fields <;> simp [State.retune]
  · intro q other
    simp [State.retune, State.modPanel_panel_ne _ other]
  · simp [State.retune, Control.accepted]
  · simp only [State.recompute_frame, State.complete_panel]
    exact State.retune_panel_same ..

end Sys2Proof.Machine
end

section
/-! PROOFS. The release and the break of a gate entry: the writes in arrival order, the windows that ALIGN closes (R104,
R148, R149). -/
namespace Sys2Proof.Machine

/-- DONE with detail 0, the final status of a released GATE ticket (R148). -/
def gateDone : Final where
  state := .done
  reason := .none
  detail := 0

/-- A listed panel's part of a release: its head is written DONE and its gate arrival field cleared (R148). -/
def State.releaseMember (s : State) (q : PanelId) : State :=
  (s.endHead q gateDone false).modPanel q fun r => { r with gateAt := none }

/-- The windows that a release closes, before it writes anything (R104, R148). -/
def State.releaseCloses (s : State) (g : GateId) : State :=
  if (s.gate g).align then s.alignClose (s.gate g).mask else s

/-- A release is its closes, the parts of the listed panels, and then the entry is FREE. -/
theorem State.release_eq (s : State) (g : GateId) :
    s.release g = ((s.gate g).list.foldl State.releaseMember (s.releaseCloses g)).setGate g .free := rfl

/-! ### The windows that ALIGN closes -/

/-- ALIGN's close is the close of each member's channel. -/
theorem State.alignClose_panel (s : State) (mask : Half) (q : PanelId) :
    (s.alignClose mask).panel q =
      if hasPanel mask q then { s.panel q with tear := (s.panel q).tear.close } else s.panel q := by
  refine foldl_allPanels (fun q s => s.panel q) _
    (fun p r => if hasPanel mask p then { r with tear := r.tear.close } else r) (fun s p => ?_) (fun s p q h => ?_) s q
  · split <;> simp
  · split
    · exact State.modPanel_panel_ne s h _
    · rfl

theorem State.releaseCloses_panel (s : State) (g : GateId) (q : PanelId) :
    (s.releaseCloses g).panel q =
      if (s.gate g).align = true ∧ hasPanel (s.gate g).mask q = true then
        { s.panel q with tear := (s.panel q).tear.close }
      else s.panel q := by
  unfold State.releaseCloses
  cases (s.gate g).align <;> simp [State.alignClose_panel]

/-- The closes leave windows and writes. -/
theorem State.releaseCloses_window (s : State) (g : GateId) (q : PanelId) :
    ((s.releaseCloses g).panel q).window = (s.panel q).window := by
  rw [State.releaseCloses_panel]
  split <;> rfl

theorem State.releaseCloses_port (s : State) (g : GateId) : (s.releaseCloses g).port = s.port := by
  unfold State.releaseCloses
  split <;> simp

/-! ### The listed panels -/

theorem State.releaseMember_panel_same (s : State) (q : PanelId) :
    (s.releaseMember q).panel q = { s.panel q with
      window := (s.panel q).window.drop 1
      head := if (s.panel q).window = [] then (s.panel q).head else .clear
      gateAt := none } := by
  rw [State.releaseMember, State.modPanel_panel_same, State.endHead_panel_same]

theorem State.releaseMember_panel_ne (s : State) {q p : PanelId} (h : p ≠ q) :
    (s.releaseMember q).panel p = s.panel p := by
  rw [State.releaseMember, State.modPanel_panel_ne _ h, State.endHead_panel_ne _ h]

/-- The records after the parts of the listed panels. -/
theorem State.releaseMembers_panel (qs : List PanelId) (once : qs.Nodup) (s : State) (p : PanelId) :
    (qs.foldl State.releaseMember s).panel p = if p ∈ qs then { s.panel p with
      window := (s.panel p).window.drop 1
      head := if (s.panel p).window = [] then (s.panel p).head else .clear
      gateAt := none } else s.panel p :=
  foldl_each (fun q s => s.panel q) State.releaseMember
    (fun _ r => { r with
      window := r.window.drop 1, head := if r.window = [] then r.head else .clear, gateAt := none })
    State.releaseMember_panel_same (fun s _ _ h => s.releaseMember_panel_ne h) qs once s p

/-- Their writes, in the order of the list. -/
theorem State.releaseMembers_port (front : PanelId → Entry) (qs : List PanelId) (once : qs.Nodup) (s : State)
    (heads : ∀ q ∈ qs, (s.panel q).window.head? = some (front q)) :
    (qs.foldl State.releaseMember s).port = { s.port with
      writeQ := s.port.writeQ ++ qs.map fun q => finalWrite q false (front q, gateDone) } := by
  induction qs generalizing s with
  | nil => simp
  | cons q rest ih =>
    obtain ⟨fresh, once⟩ := List.nodup_cons.mp once
    obtain ⟨tail, window⟩ := List.head?_eq_some_iff.mp (heads q (by simp))
    have own : (s.releaseMember q).port = { s.port with
        writeQ := s.port.writeQ ++ [finalWrite q false (front q, gateDone)] } := by
      simp [State.releaseMember, State.endHead_port, window]
    have kept : ∀ p ∈ rest, ((s.releaseMember q).panel p).window.head? = some (front p) := fun p listed => by
      rw [State.releaseMember_panel_ne s (ne_of_mem_of_not_mem listed fresh)]
      exact heads p (by simp [listed])
    rw [List.foldl_cons, ih once _ kept, own]
    simp

/-! ### The release of an entry -/

theorem State.release_panel (s : State) (g : GateId) (once : (s.gate g).list.Nodup) (p : PanelId) :
    (s.release g).panel p = if p ∈ (s.gate g).list then { (s.releaseCloses g).panel p with
      window := (s.panel p).window.drop 1
      head := if (s.panel p).window = [] then (s.panel p).head else .clear
      gateAt := none } else (s.releaseCloses g).panel p := by
  have head : ((s.releaseCloses g).panel p).head = (s.panel p).head := by
    rw [State.releaseCloses_panel]
    split <;> rfl
  rw [State.release_eq, State.setGate_panel, State.releaseMembers_panel _ once, State.releaseCloses_window, head]

/-- A listed panel's GATE has left its window, and its arrival is cleared. -/
theorem State.release_listed (s : State) (g : GateId) (once : (s.gate g).list.Nodup) (p : PanelId)
    (listed : p ∈ (s.gate g).list) :
    ((s.release g).panel p).gateAt = none ∧ ((s.release g).panel p).window = (s.panel p).window.drop 1 := by
  simp [State.release_panel s g once, listed]

/-- A release changes a channel by ALIGN's close alone. -/
theorem State.release_tear (s : State) (g : GateId) (once : (s.gate g).list.Nodup) (p : PanelId) :
    ((s.release g).panel p).tear =
      if (s.gate g).align = true ∧ hasPanel (s.gate g).mask p = true then (s.panel p).tear.close
      else (s.panel p).tear := by
  have closes : ((s.release g).panel p).tear = ((s.releaseCloses g).panel p).tear := by
    rw [State.release_panel s g once]
    split <;> rfl
  rw [closes, State.releaseCloses_panel]
  split <;> rfl

theorem State.release_port (s : State) (g : GateId) (front : PanelId → Entry) (once : (s.gate g).list.Nodup)
    (heads : ∀ q ∈ (s.gate g).list, (s.panel q).window.head? = some (front q)) :
    (s.release g).port = { s.port with
      writeQ := s.port.writeQ ++ (s.gate g).list.map fun q => finalWrite q false (front q, gateDone) } := by
  rw [State.release_eq, State.setGate_port, State.releaseMembers_port front _ once, State.releaseCloses_port]
  intro q listed
  rw [State.releaseCloses_window]
  exact heads q listed

/-! ### The break of an entry -/

theorem State.breakGate_port (s : State) (g : GateId) (reason : Reason) (own : PanelId → Bool)
    (front : PanelId → Entry) (once : (s.gate g).list.Nodup)
    (heads : ∀ q ∈ (s.gate g).list, (s.panel q).window.head? = some (front q)) :
    (s.breakGate g reason own).port = { s.port with
      writeQ := s.port.writeQ ++
        (s.gate g).list.map fun q => finalWrite q (own q) (front q, gateBroken reason) } := by
  rw [State.breakGate_eq, State.setGate_port, (State.breakMembers_spec reason own front _ s once heads).2]

theorem State.breakGate_listed (s : State) (g : GateId) (reason : Reason) (own : PanelId → Bool)
    (front : PanelId → Entry) (once : (s.gate g).list.Nodup)
    (heads : ∀ q ∈ (s.gate g).list, (s.panel q).window.head? = some (front q)) (p : PanelId)
    (listed : p ∈ (s.gate g).list) : (s.breakGate g reason own).panel p = (s.panel p).withoutArrival := by
  rw [State.breakGate_eq, State.setGate_panel, (State.breakMembers_spec reason own front _ s once heads).1,
    if_pos listed]

/-- Settles O37: a release by its closes and its listed panels' parts, a break by the laws of breaks. -/
theorem gateReleasesAndBreaksWriteInArrivalOrder : Obligations.GateReleasesAndBreaksWriteInArrivalOrder := by
  intro s g front once heads
  refine ⟨⟨_, rfl, ?_, by simp, State.release_port s g front once heads, State.release_listed s g once, fun q => ?_⟩,
    fun reason own => ⟨_, rfl, by simp, by simp, State.breakGate_port s g reason own front once heads,
      fun q listed => ?_, by simp⟩⟩
  · rw [State.release_eq, State.setGate_gate_same]
  · rw [State.release_tear s g once]
    refine ⟨fun align member opened => ?_, fun kept => ?_⟩
    · rw [if_pos ⟨align, member⟩, Channel.close_of_opened _ opened]
    · split
      · next closes =>
        obtain ⟨align, member⟩ := closes
        simp only [align, member, Bool.true_eq_false, false_or] at kept
        exact Channel.close_of_not_opened _ kept
      · rfl
  · rw [State.breakGate_listed s g reason own front once heads q listed]
    exact ⟨rfl, rfl⟩

end Sys2Proof.Machine
end

section
/-! PROOFS. QUALIFIED_EDGE and TE_FILTER_SAMPLE: what an accepted edge and a sample of the filter clock leave (R96 to
R98, R100, R102). -/
namespace Sys2Proof.Machine

/-! ### A sample of the filter clock -/

/-- A sample changes the run count alone. -/
theorem Channel.sample_frame (c : Channel) (level : Bool) :
    c.sample level = { c with run := (c.sample level).run } := by
  unfold Channel.sample
  repeat' split
  all_goals rfl

/-- A sample at the qualified level ends the run. -/
theorem Channel.sample_run_of_same (c : Channel) {level : Bool} {n : Nat} (filter : c.filter.samples = some n)
    (same : level = c.qualified) : (c.sample level).run = 0 := by
  simp [Channel.sample, filter, same]

/-- A sample at the other level lengthens a run that it does not complete. -/
theorem Channel.sample_run_of_short (c : Channel) {level : Bool} {n : Nat} (filter : c.filter.samples = some n)
    (other : level ≠ c.qualified) (short : c.run + 1 < n) : (c.sample level).run = c.run + 1 := by
  simp [Channel.sample, filter, other, short]

/-- The sample that completes the run leaves the count to the edge that accepts it (log 8). -/
theorem Channel.sample_run_of_complete (c : Channel) {level : Bool} {n : Nat} (filter : c.filter.samples = some n)
    (other : level ≠ c.qualified) (complete : n ≤ c.run + 1) : (c.sample level).run = c.run := by
  simp [Channel.sample, filter, other, Nat.not_lt.mpr complete]

theorem TeFilter.samples_eq_none_iff (f : TeFilter) : f.samples = Option.none ↔ f = .none := by
  cases f <;> simp [TeFilter.samples]

/-- The sample of one slot: its run count, and its pin when the slot has a filter. -/
theorem State.sampleTe_eq (s : State) (p : PanelId) (level : Bool) :
    s.sampleTe p level = if (s.panel p).tear.filter = .none then s
      else (s.setTePin p level).modPanel p fun r => { r with tear := r.tear.sample level } := by
  unfold State.sampleTe
  cases (s.panel p).tear.filter <;> rfl

/-- What a conditioner's sample touches: its slot's record and the level of its pin. -/
def State.teSlot (s : State) (p : PanelId) : Panel × Bool := (s.panel p, hasPanel s.pins.te p)

/-- What the samples of the filter clock make of them. -/
def sampled (levels : Half) (p : PanelId) (x : Panel × Bool) : Panel × Bool :=
  if x.1.tear.filter = .none then x else ({ x.1 with tear := x.1.tear.sample (hasPanel levels p) }, hasPanel levels p)

theorem State.sampleTe_teSlot_same (s : State) (levels : Half) (p : PanelId) :
    (s.sampleTe p (hasPanel levels p)).teSlot p = sampled levels p (s.teSlot p) := by
  by_cases h : (s.panel p).tear.filter = .none <;>
    simp [State.sampleTe_eq, State.teSlot, sampled, State.hasPanel_setTePin, h]

theorem State.sampleTe_teSlot_ne (s : State) (level : Bool) {p q : PanelId} (h : q ≠ p) :
    (s.sampleTe p level).teSlot q = s.teSlot q := by
  rw [State.sampleTe_eq]
  simp only [State.teSlot]
  split <;> simp [State.hasPanel_setTePin, State.modPanel_panel_ne _ h, h]

/-- All sixteen slots' samples. -/
def State.sampleAll (s : State) (levels : Half) : State :=
  allPanels.foldl (fun s p => s.sampleTe p (hasPanel levels p)) s

theorem exec_teFilterSample (s : State) (levels : Half) :
    exec (.teFilterSample levels) s = .next (s.sampleAll levels) := rfl

theorem State.sampleAll_teSlot (s : State) (levels : Half) (p : PanelId) :
    (s.sampleAll levels).teSlot p = sampled levels p (s.teSlot p) :=
  foldl_allPanels (fun q s => s.teSlot q) _ (sampled levels) (fun s p => s.sampleTe_teSlot_same levels p)
    (fun s _ _ h => s.sampleTe_teSlot_ne _ h) s p

/-- A slot without a filter is not sampled. -/
theorem State.sampleAll_of_no_filter (s : State) (levels : Half) (p : PanelId) (h : (s.panel p).tear.filter = .none) :
    (s.sampleAll levels).panel p = s.panel p ∧
      hasPanel (s.sampleAll levels).pins.te p = hasPanel s.pins.te p := by
  simpa [sampled, State.teSlot, h] using s.sampleAll_teSlot levels p

/-- A slot with a filter takes the level at its pin and one sample of its conditioner. -/
theorem State.sampleAll_of_filter (s : State) (levels : Half) (p : PanelId) (h : (s.panel p).tear.filter ≠ .none) :
    (s.sampleAll levels).panel p = { s.panel p with tear := (s.panel p).tear.sample (hasPanel levels p) } ∧
      hasPanel (s.sampleAll levels).pins.te p = hasPanel levels p := by
  simpa [sampled, State.teSlot, h] using s.sampleAll_teSlot levels p

/-- Either way the record changes in its run count alone. -/
theorem State.sampleAll_panel (s : State) (levels : Half) (p : PanelId) :
    (s.sampleAll levels).panel p =
      { s.panel p with tear := { (s.panel p).tear with run := ((s.sampleAll levels).panel p).tear.run } } := by
  by_cases h : (s.panel p).tear.filter = .none
  · rw [(s.sampleAll_of_no_filter levels p h).1]
  · rw [(s.sampleAll_of_filter levels p h).1, Channel.sample_frame]

/-- What shows neither panel records nor TE levels is as before the samples. -/
theorem State.sampleAll_keeps {β : Type} (view : State → β) (panel : ∀ s p r, view (State.setPanel s p r) = view s)
    (pin : ∀ s p level, view (State.setTePin s p level) = view s) (s : State) (levels : Half) :
    view (s.sampleAll levels) = view s := by
  refine foldl_keeps view _ (fun s p => ?_) allPanels s
  rw [State.sampleTe_eq]
  split
  · rfl
  · exact (panel _ p _).trans (pin s p _)

/-- The samples change panel records and TE levels. -/
theorem State.sampleAll_frame (s : State) (levels : Half) :
    s.sampleAll levels = { s with panels := (s.sampleAll levels).panels, pins := (s.sampleAll levels).pins } := by
  have kept := s.sampleAll_keeps (fun s => (s.part, s.timer, s.ctl, s.tol, s.port, s.profiles, s.lanes, s.gates,
    s.freeCount, s.pending)) (by simp) (by simp) levels
  simp only [Prod.mk.injEq] at kept
  obtain ⟨part, timer, ctl, tol, port, profiles, lanes, gates, freeCount, pending⟩ := kept
  generalize s.sampleAll levels = t at *
  exact State.eq_of_fields part timer ctl tol port rfl profiles lanes gates rfl freeCount pending

theorem State.sampleAll_pins (s : State) (levels : Half) :
    (s.sampleAll levels).pins = { s.pins with te := (s.sampleAll levels).pins.te } := by
  have kept := s.sampleAll_keeps (fun s => (s.pins.throttle, s.pins.tolAccept)) (by simp) (by simp) levels
  simp only [Prod.mk.injEq] at kept
  obtain ⟨throttle, tolAccept⟩ := kept
  generalize s.sampleAll levels = t at *
  change (⟨t.pins.te, t.pins.throttle, t.pins.tolAccept⟩ : Pins) = _
  rw [throttle, tolAccept]

/-- Settles O47: the accepted edge by whether it is a TE event and what it meets, the samples slot by slot. -/
theorem edgesBecomeTeEvents : Obligations.EdgesBecomeTeEvents := by
  refine ⟨fun s p level together => ?_, fun s levels => ⟨_, exec_teFilterSample s levels, s.sampleAll_frame levels,
    s.sampleAll_pins levels, fun p => ⟨s.sampleAll_panel levels p, s.sampleAll_of_no_filter levels p,
    fun n samples => ?_⟩⟩⟩
  · intro r c due te accepted meets last after
    have due_iff : c.edgeDue level = true ↔ due := c.edgeDue_iff level
    have te_iff : s.isTeEvent p level = true ↔ te := by
      rw [State.isTeEvent_iff, TeEdge.matches_iff]
    have meets_iff : s.meetsBoundary together = true ↔ meets := s.meetsBoundary_iff together
    have last_iff : c.lastHold = true ↔ last := c.lastHold_iff
    refine ⟨fun h => exec_qualifiedEdge_of_not_due s p ⟨level, together⟩ ((not_congr due_iff).mpr h), fun h =>
      ⟨_, exec_qualifiedEdge_of_due s p ⟨level, together⟩ (due_iff.mpr h), ?_, fun q other => ?_, ?_, ?_,
        fun q other => ?_, fun notTe => ?_, ?_⟩⟩
    · apply State.eq_of_fields <;> simp
    · rw [State.acceptEdge_panel, if_neg other]
    · rw [State.acceptEdge_panel_same]
    · simp [State.hasPanel_setTePin]
    · simp [State.hasPanel_setTePin, other]
    · have dropped : s.isTeEvent p level = false := by rwa [← te_iff, Bool.not_eq_true] at notTe
      exact ⟨State.acceptEdge_tear_of_not_te s p _ dropped, State.acceptEdge_tol s p _ dropped⟩
    · have after_te (yes : te) : (((s.acceptEdge p ⟨level, together⟩).panel p).tear =
          after (if s.meetsBoundary together && c.lastHold then s.timer.count + 1 else s.timer.count)
            (c.meetingAt r.desc (s.meetsBoundary together))) := by
        rw [State.acceptEdge_tear_of_te s p _ (te_iff.mpr yes)]
        exact Channel.teEvent_eq ..
      refine ⟨fun yes apart => ?_, fun yes meet notLast watch => ?_, fun yes meet isLast => ?_⟩
      · rw [← meets_iff, ← last_iff] at apart
        have notLast : (s.meetsBoundary together && c.lastHold) = false := by
          rw [Bool.eq_false_iff, ne_eq, Bool.and_eq_true]
          exact fun ⟨m, l⟩ => apart ⟨m, .inl l⟩
        rw [after_te yes, notLast, c.meetingAt_of_apart _ _ apart]
        rfl
      · have m := meets_iff.mpr meet
        have l : c.lastHold = false := by rwa [← last_iff, Bool.not_eq_true] at notLast
        rw [after_te yes, m, l, c.meetingAt_of_watched _ l watch]
        rfl
      · have m := meets_iff.mpr meet
        have l := last_iff.mpr isLast
        rw [after_te yes, m, l, c.meetingAt_of_lastHold _ l]
        rfl
  · have filter : (s.panel p).tear.filter ≠ .none := by
      simp [← TeFilter.samples_eq_none_iff, samples]
    obtain ⟨panel, pin⟩ := s.sampleAll_of_filter levels p filter
    rw [panel, pin]
    exact ⟨rfl, Channel.sample_run_of_same _ samples, Channel.sample_run_of_short _ samples,
      Channel.sample_run_of_complete _ samples⟩

end Sys2Proof.Machine
end

section
/-! PROOFS. HOLD_EXPIRY and TE_LOST, and a TE event together with the boundary that ends a hold or completes a watch, in
both orders (R98 to R102, log 31). -/
namespace Sys2Proof.Machine

/-! ### HOLD_EXPIRY -/

/-- The channel when HOLD_EXPIRY is taken: a window whose hold has run out closes. -/
def Channel.expireHold (c : Channel) : Channel :=
  if c.state = .opened ∧ c.hold = 0 ∧ c.meeting = .none then c.close else c

theorem Channel.expireHold_of_ended (c : Channel) (opened : c.state = .opened) (hold : c.hold = 0)
    (meeting : c.meeting = .none) : c.expireHold = { c with state := .closed, budget := 0, hold := 0 } := by
  rw [Channel.expireHold, if_pos ⟨opened, hold, meeting⟩, Channel.close_of_opened c opened]

theorem Channel.expireHold_of_holding (c : Channel) (h : c.hold ≠ 0 ∨ c.meeting ≠ .none) : c.expireHold = c := by
  refine if_neg fun ⟨_, hold, meeting⟩ => ?_
  exact h.elim (· hold) (· meeting)

/-- The end of a hold leaves the conditioner and the edge setting. -/
@[simp] theorem Channel.expireHold_conditioner (c : Channel) :
    c.expireHold.qualified = c.qualified ∧ c.expireHold.filter = c.filter ∧ c.expireHold.run = c.run ∧
    c.expireHold.edge = c.edge := by
  unfold Channel.expireHold Channel.close
  repeat' split
  all_goals simp

/-- So does a boundary. -/
@[simp] theorem Channel.boundary_conditioner (c : Channel) (d : Descriptor) (awake : Bool) :
    (c.boundary d awake).qualified = c.qualified ∧ (c.boundary d awake).filter = c.filter ∧
    (c.boundary d awake).run = c.run ∧ (c.boundary d awake).edge = c.edge := ⟨rfl, rfl, rfl, rfl⟩

/-- So does the loss of tracking. -/
@[simp] theorem Channel.enterUntracked_conditioner (c : Channel) (armed : Bool) :
    (c.enterUntracked armed).qualified = c.qualified ∧ (c.enterUntracked armed).filter = c.filter ∧
    (c.enterUntracked armed).run = c.run ∧ (c.enterUntracked armed).edge = c.edge := ⟨rfl, rfl, rfl, rfl⟩

/-- What HOLD_EXPIRY leaves. -/
def State.holdExpired (s : State) (p : PanelId) : State :=
  if s.holdDue p then (s.modPanel p fun r => { r with tear := r.tear.close }).recompute else s

theorem exec_holdExpiry (s : State) (p : PanelId) : exec (.holdExpiry p) s = .next (s.holdExpired p) := rfl

theorem State.holdDue_iff (s : State) (p : PanelId) :
    s.holdDue p = true ↔ (s.panel p).state ≠ .unbound ∧ (s.panel p).tear.state = .opened ∧ (s.panel p).tear.hold = 0 ∧
      (s.panel p).tear.meeting = .none ∧ s.part ≠ .resetting := by
  simp [State.holdDue, Panel.bound, and_assoc]

/-- HOLD_EXPIRY changes panel records and the tolerance reporter. -/
theorem State.holdExpired_frame (s : State) (p : PanelId) :
    s.holdExpired p = { s with panels := (s.holdExpired p).panels, tol := (s.holdExpired p).tol } := by
  unfold State.holdExpired
  split
  · apply State.eq_of_fields <;> simp
  · rfl

theorem State.holdExpired_panel_ne (s : State) (p : PanelId) : SameButPanel p s (s.holdExpired p) := by
  intro q other
  unfold State.holdExpired
  split
  · simp [State.modPanel_panel_ne _ other]
  · rfl

/-- A bound slot's record after HOLD_EXPIRY, outside RESETTING. -/
theorem State.holdExpired_panel_same (s : State) (p : PanelId) (bound : (s.panel p).state ≠ .unbound)
    (part : s.part ≠ .resetting) :
    (s.holdExpired p).panel p = { s.panel p with tear := (s.panel p).tear.expireHold } := by
  unfold State.holdExpired Channel.expireHold
  simp only [State.holdDue_iff, bound, part, ne_eq, not_false_eq_true, true_and, and_true]
  split <;> simp

/-! ### TE_LOST -/

/-- What TE_LOST leaves of a lost channel. -/
def State.trackingLost (s : State) (p : PanelId) : State :=
  ((s.modPanel p fun r => { r with tear := r.tear.enterUntracked false, fault := .teLost }).setFaultBit p).recompute

theorem State.watchDue_iff (s : State) (p : PanelId) :
    s.watchDue p = true ↔ (s.panel p).state ≠ .unbound ∧ (s.panel p).tear.armed = true ∧
      (s.panel p).desc.policy = .blank ∧ (s.panel p).display = .awake ∧
      (s.panel p).desc.teWatch ≤ (s.panel p).tear.watch ∧ s.part ≠ .resetting := by
  simp [State.watchDue, Panel.bound, and_assoc]

theorem exec_teLost_of_due (s : State) (p : PanelId) (due : s.watchDue p = true) :
    exec (.teLost p) s = .next (s.trackingLost p) := congrArg Host.Outcome.next (if_pos due)

theorem exec_teLost_of_not_due (s : State) (p : PanelId) (due : ¬ s.watchDue p = true) :
    exec (.teLost p) s = .next s := congrArg Host.Outcome.next (if_neg due)

/-- The loss changes panel records, FAULT bits and the tolerance reporter. -/
theorem State.trackingLost_frame (s : State) (p : PanelId) :
    s.trackingLost p = { s with
      panels := (s.trackingLost p).panels, ctl := (s.trackingLost p).ctl, tol := (s.trackingLost p).tol } := by
  apply State.eq_of_fields <;> simp [State.trackingLost]

theorem State.trackingLost_panel (s : State) (p q : PanelId) :
    (s.trackingLost p).panel q = if q = p then
      { s.panel p with tear := (s.panel p).tear.enterUntracked false, fault := .teLost }
    else s.panel q := by
  simp [State.trackingLost, State.modPanel_panel]

theorem State.trackingLost_ctl (s : State) (p : PanelId) :
    (s.trackingLost p).ctl = { s.ctl with fault := s.ctl.fault ||| panelBit p } := by
  simp [State.trackingLost]

/-! ### A TE event before the boundary it falls together with -/

/-- A watch counts up by at most 1. -/
theorem Channel.boundary_watch_le (c : Channel) (d : Descriptor) (awake : Bool) :
    (c.boundary d awake).watch ≤ c.watch + 1 := by
  simp only [Channel.boundary]
  split <;> omega

/-- A TE event that waits for the boundary keeps the watch where it set it. -/
theorem Channel.boundary_watch_of_waiting (c : Channel) (d : Descriptor) (awake : Bool)
    (h : c.meeting = .watched ∨ ∃ opened, c.meeting = .coming opened) : (c.boundary d awake).watch = c.watch := by
  refine if_neg fun counts => ?_
  obtain ⟨_, _, _, free⟩ := (c.watchCounts_iff d awake).mp counts
  obtain waits | ⟨_, waits⟩ := h <;> simp [waits] at free

/-- After a TE event and the boundary it falls together with, the watch is short of the TE watch value (R102). -/
theorem Channel.teEvent_boundary_watch_lt (c : Channel) (d : Descriptor) (count : Word) (awake : Bool)
    (watch : 1 ≤ d.teWatch) : ((c.teEvent d count true).boundary d awake).watch < d.teWatch := by
  have cleared : (c.teEvent d count true).watch = 0 := by rw [Channel.teEvent_eq]
  have meeting : (c.teEvent d count true).meeting = c.meetingAt d true := by rw [Channel.teEvent_eq]
  by_cases one : d.teWatch = 1
  · have waits : (c.teEvent d count true).meeting = .watched ∨
        ∃ opened, (c.teEvent d count true).meeting = .coming opened := by
      rw [meeting]
      cases hold : c.lastHold with
      | true => exact .inr ⟨_, c.meetingAt_of_lastHold d hold⟩
      | false => exact .inl (c.meetingAt_of_watched d hold one)
    rw [Channel.boundary_watch_of_waiting _ d awake waits, cleared]
    omega
  · have := (c.teEvent d count true).boundary_watch_le d awake
    omega

section
variable {s : State} {p : PanelId} {level : Bool}

/-- The channel after a TE event that falls together with the boundary, and that boundary. -/
theorem State.teEvent_boundary_tear (te : s.isTeEvent p level = true) (ending : s.timer.ending = true) :
    ((s.acceptEdge p ⟨level, true⟩).boundary.panel p).tear =
      (((s.panel p).tear.takeLevel level).teEvent (s.panel p).desc s.timer.count true).boundary
        (s.panel p).desc true := by
  obtain ⟨bound, _, awake, _, _⟩ := (s.isTeEvent_iff p level).mp te
  have meets : s.meetsBoundary true = true := by simp [State.meetsBoundary, ending]
  rw [State.boundary_tear _ p (by rwa [State.acceptEdge_panel_same]), State.acceptEdge_tear_of_te s p _ te, meets]
  simp [State.acceptEdge_panel_same, awake]

/-- A boundary before the TE event moves the channel of an awake slot as R99 and R102 give. -/
theorem State.boundary_tear_of_te (te : s.isTeEvent p level = true) :
    (s.boundary.panel p).tear = (s.panel p).tear.boundary (s.panel p).desc true := by
  obtain ⟨bound, _, awake, _, _⟩ := (s.isTeEvent_iff p level).mp te
  rw [State.boundary_tear s p bound]
  simp [awake]

/-- A level due at a conditioner is due in every state with the same conditioner. -/
theorem Channel.edgeDue_congr {c c' : Channel}
    (h : (c'.qualified, c'.filter, c'.run) = (c.qualified, c.filter, c.run)) :
    c'.edgeDue level = c.edgeDue level := by
  simp only [Prod.mk.injEq] at h
  obtain ⟨qualified, filter, run⟩ := h
  rw [Channel.edgeDue, Channel.edgeDue, qualified, filter, run]

/-- An edge is a TE event in every state with the same part state, descriptor copy, display and edge setting. -/
theorem State.isTeEvent_congr {t : State} (part : t.part = s.part)
    (h : ((t.panel p).state, (t.panel p).desc, (t.panel p).display, (t.panel p).tear.edge) =
      ((s.panel p).state, (s.panel p).desc, (s.panel p).display, (s.panel p).tear.edge)) :
    t.isTeEvent p level = s.isTeEvent p level := by
  simp only [Prod.mk.injEq] at h
  obtain ⟨state, desc, display, edge⟩ := h
  simp only [State.isTeEvent, Panel.bound, part, state, desc, display, edge]

/-- The channel after a TE event with no boundary to meet. -/
theorem State.acceptEdge_tear_of_late_te (te : s.isTeEvent p level = true) :
    ((s.acceptEdge p ⟨level, false⟩).panel p).tear =
      ((s.panel p).tear.takeLevel level).teEvent (s.panel p).desc s.timer.count false :=
  State.acceptEdge_tear_of_te s p _ te

end

/-! ### R102: the boundary that completes the watch -/

/-- With the TE event first no loss occurs. -/
theorem teEvent_then_boundary_keeps_tracking (s : State) (p : PanelId) (level : Bool) (running : s.part = .running)
    (ending : s.timer.ending = true) (watch : 1 ≤ (s.panel p).desc.teWatch)
    (due : (s.panel p).tear.edgeDue level = true) (te : s.isTeEvent p level = true) :
    ∃ a b, exec (.qualifiedEdge p { level := level, together := true }) s = .next a ∧
      (a.panel p).tear.watch = 0 ∧ exec .periodBoundary a = .next b ∧ exec (.teLost p) b = .next b ∧
      (b.panel p).fault = (s.panel p).fault ∧ hasPanel b.ctl.fault p = hasPanel s.ctl.fault p ∧
      (b.panel p).tear.armed = true := by
  have tear := State.teEvent_boundary_tear te ending
  refine ⟨_, _, exec_qualifiedEdge_of_due s p _ due, ?_,
    exec_periodBoundary_of_ending _ (by simpa using running) (by simpa using ending),
    exec_teLost_of_not_due _ p fun lost => ?_, ?_, ?_, ?_⟩
  · rw [State.acceptEdge_tear_of_te s p _ te, Channel.teEvent_eq]
  · obtain ⟨_, _, _, _, reached, _⟩ := (State.watchDue_iff _ p).mp lost
    have short := Channel.teEvent_boundary_watch_lt ((s.panel p).tear.takeLevel level) (s.panel p).desc s.timer.count
      true watch
    simp only [tear, State.boundary_panel_frame, State.acceptEdge_panel_same] at reached
    omega
  · simp [State.acceptEdge_panel_same]
  · simp
  · rw [tear, Channel.teEvent_eq]
    simpa [Channel.boundary] using Nat.lt_of_lt_of_le Nat.zero_lt_one watch

/-- With the boundary first the loss is raised, and the TE event then opens a window. -/
theorem boundary_then_teEvent_reopens (s : State) (p : PanelId) (level : Bool) (running : s.part = .running)
    (ending : s.timer.ending = true) (armed : (s.panel p).tear.armed = true)
    (byte : (s.panel p).desc.teWatch ≤ 255) (last : (s.panel p).desc.teWatch ≤ (s.panel p).tear.watch + 1)
    (due : (s.panel p).tear.edgeDue level = true) (te : s.isTeEvent p level = true)
    (meeting : (s.panel p).tear.meeting = .none) :
    ∃ d e f, exec .periodBoundary s = .next d ∧ exec (.teLost p) d = .next e ∧
      exec (.qualifiedEdge p { level := level, together := false }) e = .next f ∧
      (e.panel p).fault = .teLost ∧ hasPanel e.ctl.fault p = true ∧ (e.panel p).tear.state = .untracked ∧
      (f.panel p).tear.state = .opened ∧ (f.panel p).fault = .teLost := by
  obtain ⟨bound, blank, awake, _, _⟩ := (s.isTeEvent_iff p level).mp te
  have tear := State.boundary_tear_of_te te
  have counted : ((s.panel p).tear.boundary (s.panel p).desc true).watch = min ((s.panel p).tear.watch + 1) 255 := by
    simp [Channel.boundary_of_noMeeting _ _ _ meeting, armed, blank]
  have lost : s.boundary.watchDue p = true := by
    rw [State.watchDue_iff, tear, counted]
    simp only [State.boundary_panel_frame, State.boundary_part, running]
    exact ⟨bound, armed, blank, awake, Nat.le_min.mpr ⟨last, byte⟩, by decide⟩
  have after : (s.boundary.trackingLost p).panel p = { s.boundary.panel p with
      tear := ((s.panel p).tear.boundary (s.panel p).desc true).enterUntracked false, fault := .teLost } := by
    rw [State.trackingLost_panel, if_pos rfl, tear]
  have te' : (s.boundary.trackingLost p).isTeEvent p level = true := by
    rw [State.isTeEvent_congr (s := s) (by simp [State.trackingLost])]
    · exact te
    · simp [after]
  have due' : ((s.boundary.trackingLost p).panel p).tear.edgeDue level = true :=
    (Channel.edgeDue_congr (by simp [after])).trans due
  refine ⟨_, _, _, exec_periodBoundary_of_ending s running ending, exec_teLost_of_due _ p lost,
    exec_qualifiedEdge_of_due _ p _ due', ?_, ?_, ?_, ?_, ?_⟩
  · rw [after]
  · simp [State.trackingLost_ctl, hasPanel_or_panelBit]
  · rw [after]
    rfl
  · rw [State.acceptEdge_tear_of_late_te te']
    refine Channel.teEvent_state_of_no_skip _ _ _ _ ?_
    rw [after]
    rfl
  · rw [State.acceptEdge_panel_same, after]

/-! ### R100: the boundary that ends the hold -/

/-- The channel when the TE event comes first. -/
def Channel.teFirst (c : Channel) (d : Descriptor) (count : Word) (level : Bool) : Channel :=
  (((c.takeLevel level).teEvent d count true).boundary d true).expireHold

/-- The channel when the boundary comes first, and with it the end of the hold. -/
def Channel.boundaryFirst (c : Channel) (d : Descriptor) (count : Word) (level : Bool) : Channel :=
  ((c.boundary d true).expireHold.takeLevel level).teEvent d (count + 1) false

section
variable (c : Channel) (d : Descriptor) (count : Word) (level : Bool)

/-- A TE event that waits for the boundary which ends the hold, and that boundary, before the hold's end is taken: a
window of hold 1 that the event has opened stands (log 31). -/
theorem Channel.teEvent_boundary_of_lastHold (opened : c.state = .opened) (hold : c.hold = 1) :
    ((c.takeLevel level).teEvent d count true).boundary d true = { c.takeLevel level with
      estimate := c.newEstimate (count + 1)
      lastTe := count
      base := true
      watch := 0
      armed := decide (0 < d.teWatch)
      budget := if c.skipCtr = 0 then d.budget else c.budget
      hold := if c.skipCtr = 0 then d.hold - 1 else 0
      skipCtr := (c.skipCtr + 1) % c.skip
      meeting := if c.skipCtr = 0 ∧ d.hold ≤ 1 then .stands else .none } := by
  have last : (c.takeLevel level).lastHold = true := by
    simp [Channel.lastHold_iff, Channel.takeLevel, opened, hold]
  rw [Channel.teEvent_eq, Channel.meetingAt_of_lastHold _ d last, last]
  by_cases skip : c.skipCtr = 0 <;>
    simp [Channel.boundary, Channel.watchCounts, Channel.meetingAfter, Channel.lastHold, Channel.takeLevel,
      Channel.newEstimate, skip, opened, hold]

/-- With the TE event first, its window stands one lower in its hold, or the old one closes. -/
theorem Channel.teFirst_spec (opened : c.state = .opened) (hold : c.hold = 1) :
    let x := c.teFirst d count level
    (x.skipCtr = (c.skipCtr + 1) % c.skip ∧ x.watch = 0 ∧ x.estimate = c.newEstimate (count + 1)) ∧
    (c.skipCtr = 0 → x.state = .opened ∧ x.budget = d.budget ∧ x.hold = d.hold - 1) ∧
    (c.skipCtr ≠ 0 → x.state = .closed) := by
  rw [Channel.teFirst, Channel.teEvent_boundary_of_lastHold c d count level opened hold]
  by_cases skip : c.skipCtr = 0
  · rw [Channel.expireHold_of_holding]
    · simp [skip, Channel.takeLevel, opened]
    · by_cases one : d.hold ≤ 1
      · exact .inr (by simp [skip, one])
      · exact .inl (by simp only [skip, if_true]; omega)
  · rw [Channel.expireHold_of_ended]
    · simp [skip]
    · exact opened
    · simp [skip]
    · simp [skip]

/-- With the boundary first, the window closes, and the TE event opens its own or leaves it closed. -/
theorem Channel.boundaryFirst_spec (opened : c.state = .opened) (hold : c.hold = 1) (meeting : c.meeting = .none) :
    let y := c.boundaryFirst d count level
    (y.skipCtr = (c.skipCtr + 1) % c.skip ∧ y.watch = 0 ∧ y.estimate = c.newEstimate (count + 1)) ∧
    (c.skipCtr = 0 → y.state = .opened ∧ y.budget = d.budget ∧ y.hold = d.hold) ∧
    (c.skipCtr ≠ 0 → y.state = .closed) := by
  rw [Channel.boundaryFirst, Channel.boundary_of_noMeeting c d true meeting, Channel.expireHold_of_ended,
    Channel.teEvent_eq]
  · simp +contextual [Channel.takeLevel, Channel.newEstimate]
  · exact opened
  · simp [opened, hold]
  · exact meeting

end

/-- The state's channel in the two orders of the TE event and the boundary that ends its hold. -/
theorem State.holdEnd_orders (s : State) (p : PanelId) (level : Bool) (running : s.part = .running)
    (ending : s.timer.ending = true) (due : (s.panel p).tear.edgeDue level = true) (te : s.isTeEvent p level = true) :
    ∃ a b c d e f, exec (.qualifiedEdge p { level := level, together := true }) s = .next a ∧
      exec .periodBoundary a = .next b ∧ exec (.holdExpiry p) b = .next c ∧
      exec .periodBoundary s = .next d ∧ exec (.holdExpiry p) d = .next e ∧
      exec (.qualifiedEdge p { level := level, together := false }) e = .next f ∧
      (c.panel p).tear = (s.panel p).tear.teFirst (s.panel p).desc s.timer.count level ∧
      (f.panel p).tear = (s.panel p).tear.boundaryFirst (s.panel p).desc s.timer.count level := by
  obtain ⟨bound, _⟩ := (s.isTeEvent_iff p level).mp te
  have closed : (s.boundary.holdExpired p).panel p = { s.boundary.panel p with
      tear := ((s.panel p).tear.boundary (s.panel p).desc true).expireHold } := by
    rw [State.holdExpired_panel_same _ p (by simpa using bound) (by simp [running]), State.boundary_tear_of_te te]
  have frame := s.boundary.holdExpired_frame p
  have te' : (s.boundary.holdExpired p).isTeEvent p level = true := by
    rw [State.isTeEvent_congr (s := s) (by rw [frame, State.boundary_part])]
    · exact te
    · simp [closed]
  have due' : ((s.boundary.holdExpired p).panel p).tear.edgeDue level = true :=
    (Channel.edgeDue_congr (by simp [closed])).trans due
  refine ⟨_, _, _, _, _, _, exec_qualifiedEdge_of_due s p _ due,
    exec_periodBoundary_of_ending _ (by simpa using running) (by simpa using ending), exec_holdExpiry _ p,
    exec_periodBoundary_of_ending s running ending, exec_holdExpiry _ p, exec_qualifiedEdge_of_due _ p _ due', ?_, ?_⟩
  · rw [State.holdExpired_panel_same _ p (by simpa [State.acceptEdge_panel_same] using bound) (by simp [running]),
      State.teEvent_boundary_tear te ending]
    rfl
  · have count : (s.boundary.holdExpired p).timer.count = s.timer.count + 1 := by
      rw [frame, State.boundary_timer]
      rfl
    rw [State.acceptEdge_tear_of_late_te te', closed, count, Channel.boundaryFirst]
    simp

/-- Settles O48: the two events by their conditions, then each pair of a TE event and a boundary in both orders. -/
theorem windowsCloseAndTrackingIsLost : Obligations.WindowsCloseAndTrackingIsLost := by
  refine ⟨fun s p => ?_, fun s p level len progress running period ends armed watch byte last due te => ?_,
    fun s p level len progress running period ends opened hold meeting due te => ?_⟩
  · intro r expired lost
    have expired_iff : s.holdDue p = true ↔ expired := s.holdDue_iff p
    have lost_iff : s.watchDue p = true ↔ lost := s.watchDue_iff p
    refine ⟨fun h => ⟨_, exec_holdExpiry s p, s.holdExpired_frame p, s.holdExpired_panel_ne p, ?_⟩, fun h => ?_,
      fun h => ⟨_, exec_teLost_of_due s p (lost_iff.mpr h), s.trackingLost_frame p, fun q other => ?_, ?_, fun q => ?_,
        ?_⟩,
      fun h => exec_teLost_of_not_due s p ((not_congr lost_iff).mpr h)⟩
    · obtain ⟨bound, opened, hold, meeting, part⟩ := h
      rw [State.holdExpired_panel_same s p bound part, Channel.expireHold_of_ended _ opened hold meeting]
    · rw [exec_holdExpiry, State.holdExpired, if_neg ((not_congr expired_iff).mpr h)]
    · rw [State.trackingLost_panel, if_neg other]
    · rw [State.trackingLost_ctl]
    · rw [State.trackingLost_ctl]
      exact hasPanel_or_panelBit _ p q
    · rw [State.trackingLost_panel, if_pos rfl]
      rfl
  · have ending : s.timer.ending = true := s.timer.ending_iff.mpr ⟨len, progress, period, ends⟩
    exact ⟨teEvent_then_boundary_keeps_tracking s p level running ending watch due te,
      boundary_then_teEvent_reopens s p level running ending armed byte last due te⟩
  · have ending : s.timer.ending = true := s.timer.ending_iff.mpr ⟨len, progress, period, ends⟩
    obtain ⟨a, b, c, d, e, f, ha, hb, hc, hd, he, hf, first, second⟩ :=
      s.holdEnd_orders p level running ending due te
    refine ⟨a, b, c, d, e, f, ha, hb, hc, hd, he, hf, ?_⟩
    obtain ⟨⟨xSkip, xWatch, xEstimate⟩, xOpen, xClosed⟩ :=
      (s.panel p).tear.teFirst_spec (s.panel p).desc s.timer.count level opened hold
    obtain ⟨⟨ySkip, yWatch, yEstimate⟩, yOpen, yClosed⟩ :=
      (s.panel p).tear.boundaryFirst_spec (s.panel p).desc s.timer.count level opened hold meeting
    rw [first, second]
    refine ⟨⟨xSkip.trans ySkip.symm, xWatch.trans yWatch.symm, xEstimate.trans yEstimate.symm⟩, fun skip => ?_,
      fun skip => ⟨xClosed skip, yClosed skip⟩⟩
    obtain ⟨xState, xBudget, xHold⟩ := xOpen skip
    obtain ⟨yState, yBudget, yHold⟩ := yOpen skip
    exact ⟨xState, yState, xBudget, yBudget, yHold, xHold⟩

end Sys2Proof.Machine
end

section
/-! PROOFS. BYTE_TIME_END: the two stages, the byte clocked in, the row requests and the deassertion of an abort (R130,
R133, R135, R136, R139). -/
namespace Sys2Proof.Machine

/-! ### Eight levels as one byte (R130, R133) -/

/-- The first k levels as a number, the first of them its highest bit. -/
def packLevels (k : Nat) (level : Nat → Bool) : Nat :=
  (List.range k).foldl (fun acc n => 2 * acc + if level n then 1 else 0) 0

theorem packLevels_succ (k : Nat) (level : Nat → Bool) :
    packLevels (k + 1) level = 2 * packLevels k level + if level k then 1 else 0 := by
  rw [packLevels, List.range_succ, List.foldl_append]
  rfl

theorem testBit_packLevels (k : Nat) (level : Nat → Bool) (n : Nat) (inside : n < k) :
    (packLevels k level).testBit (k - 1 - n) = level n := by
  induction k with
  | zero => omega
  | succ k ih =>
    rw [packLevels_succ]
    by_cases last : n = k
    · have place : k + 1 - 1 - n = 0 := by omega
      rw [place, Nat.testBit_zero, last]
      cases level k with
      | false => exact decide_eq_false (by simp only [Bool.false_eq_true, if_false]; omega)
      | true => exact decide_eq_true (by simp only [if_true]; omega)
    · have place : k + 1 - 1 - n = (k - 1 - n) + 1 := by omega
      have rest : (2 * packLevels k level + if level k then 1 else 0) / 2 = packLevels k level := by
        split <;> omega
      rw [place, Nat.testBit_add_one, rest, ih (by omega)]

/-- Level n of eight stands in bit 7 − n of their byte. -/
theorem getLsbD_packLevels (level : Nat → Bool) {n : Nat} (inside : n < 8) :
    (BitVec.ofNat 8 (packLevels 8 level)).getLsbD (7 - n) = level n := by
  rw [BitVec.getLsbD_ofNat, testBit_packLevels 8 level n inside]
  simp only [Bool.and_eq_right_iff_imp, decide_eq_true_eq]
  omega

theorem revByte_eq (b : Byte) : revByte b = BitVec.ofNat 8 (packLevels 8 fun n => b.getLsbD n) := by
  have weight : ∀ (c : Bool) (k : Nat), (if c then k else 0) = k * c.toNat := by
    intro c k
    cases c <;> simp
  rw [revByte, packLevels]
  congr 1
  simp only [List.range, List.range.loop, List.foldl, weight]
  omega

/-- The other bit order. -/
theorem getLsbD_revByte (b : Byte) {n : Nat} (inside : n < 8) : (revByte b).getLsbD n = b.getLsbD (7 - n) := by
  have place : 7 - (7 - n) = n := by omega
  have bit := getLsbD_packLevels (fun i => b.getLsbD i) (n := 7 - n) (by omega)
  rw [place] at bit
  rw [revByte_eq, bit]

/-- The number of the n-th capture edge among the sixteen edges of a byte time (R130). -/
def captureNumber (mode : Fin 4) (n : Nat) : Nat := if mode = 0 ∨ mode = 2 then 2 * n else 2 * n + 1

theorem captureEdges_eq (mode : Fin 4) : captureEdges mode = (List.range 8).map (captureNumber mode) := by
  revert mode
  decide

theorem sampleBits_eq (mode : Fin 4) (ldi : Half) :
    sampleBits mode ldi = BitVec.ofNat 8 (packLevels 8 fun n => ldi.getLsbD (15 - captureNumber mode n)) := by
  rw [sampleBits, captureEdges_eq, List.foldl_map, packLevels]

/-- Bit n of a byte clocked in, in the lane's order, is the level on the n-th capture edge. -/
theorem getLsbD_assembleBits (mode : Fin 4) (lsbFirst : Bool) (ldi : Half) {n : Nat} (inside : n < 8) :
    (assembleBits lsbFirst (sampleBits mode ldi)).getLsbD (if lsbFirst = true then n else 7 - n) =
      ldi.getLsbD (15 - captureNumber mode n) := by
  have sampled : (sampleBits mode ldi).getLsbD (7 - n) = ldi.getLsbD (15 - captureNumber mode n) := by
    rw [sampleBits_eq]
    exact getLsbD_packLevels _ inside
  cases lsbFirst with
  | false => exact sampled
  | true => exact (getLsbD_revByte _ inside).trans sampled

/-! ### A byte clocked in (R133) -/

section
variable {ln : Lane} {tx : Tx} (ldi : Half)

theorem Lane.capture_of_not_clockIn (shift : ln.shift ≠ some .clockIn) : ln.capture ldi = ln := by
  unfold Lane.capture
  split
  · contradiction
  · rfl

theorem Lane.capture_of_dummy (shift : ln.shift = some .clockIn) (flight : ln.tx = some tx) (due : 0 < tx.dummy) :
    ln.capture ldi = { ln with tx := some { tx with dummy := tx.dummy - 1 } } := by
  simp [Lane.capture, shift, flight, due]

theorem Lane.capture_of_reply (shift : ln.shift = some .clockIn) (flight : ln.tx = some tx) (spent : tx.dummy = 0) :
    ln.capture ldi =
      { ln with reply := ln.reply ++ [assembleBits tx.lsbFirst (sampleBits tx.mode ldi)] } := by
  simp [Lane.capture, shift, flight, spent]

theorem Lane.capture_tx (shift : ln.shift = some .clockIn) (flight : ln.tx = some tx) :
    (ln.capture ldi).tx = some { tx with dummy := tx.dummy - 1 } := by
  obtain spent | due := Nat.eq_zero_or_pos tx.dummy
  · rw [Lane.capture_of_reply ldi shift flight spent, flight, spent, Nat.zero_sub, ← spent]
  · rw [Lane.capture_of_dummy ldi shift flight due]

end

/-- A byte clocked in stays clear of the line buffers. -/
theorem Lane.capture_bufs (ln : Lane) (ldi : Half) :
    (ln.capture ldi).bufA = ln.bufA ∧ (ln.capture ldi).bufB = ln.bufB := by
  unfold Lane.capture
  repeat' split
  all_goals exact ⟨rfl, rfl⟩

/-! ### The supply behind the two stages (R135) -/

/-- The lane with the given stages and data lines. -/
def Lane.withStages (ln : Lane) (shift stage : Option LaneByte) (ldo : Ldo) (ldc : Bool) : Lane :=
  { ln with shift := shift, stage := stage, ldo := ldo, ldc := ldc }

/-- The same supply from another lane. -/
def Supply.mapLane (f : Lane → Lane) : Supply → Supply
  | .byte b ln => .byte b (f ln)
  | .late => .late
  | .exhausted => .exhausted

/-- The next byte does not turn on what the two stages and the data lines hold. -/
theorem Lane.supply_withStages (ln : Lane) (shift stage : Option LaneByte) (ldo : Ldo) (ldc : Bool) :
    (ln.withStages shift stage ldo ldc).supply = ln.supply.mapLane (·.withStages shift stage ldo ldc) := by
  have flight : (ln.withStages shift stage ldo ldc).tx = ln.tx := rfl
  have holding : ∀ row, (ln.withStages shift stage ldo ldc).holding row = ln.holding row := fun _ => rfl
  unfold Lane.supply
  simp only [flight, holding]
  obtain _ | ⟨panel, select, mode, lsbFirst, rateCode, work, units, feed, dummy⟩ := ln.tx
  · rfl
  · cases units with
    | cons b rest => rfl
    | nil =>
      cases feed with
      | none => rfl
      | fill pixel left => dsimp only; split <;> rfl
      | draw d =>
        dsimp only
        split
        · rfl
        · obtain _ | ⟨b, bytes⟩ := ln.holding d.cur
          · rfl
          · dsimp only
            split
            · rfl
            · unfold Lane.setBuf
              split <;> rfl

theorem Lane.refill_of_stage {ln : Lane} {b : LaneByte} (stage : ln.stage = some b) : ln.refill = ln := by
  rw [Lane.refill, stage]

theorem Lane.refill_of_byte {ln ln' : Lane} {b : LaneByte} (stage : ln.stage = none) (next : ln.supply = .byte b ln') :
    ln.refill = { ln' with stage := some b } := by
  rw [Lane.refill, stage, next]

theorem Lane.refill_of_no_byte {ln : Lane} (next : ln.supply = .late ∨ ln.supply = .exhausted) : ln.refill = ln := by
  unfold Lane.refill
  obtain next | next := next <;> rw [next] <;> split <;> rfl

/-- The byte stage of y and what y keeps of the transaction are what the supply of a lane gives. -/
def Lane.Filled (y from' : Lane) : Prop :=
  (∀ b ln', from'.supply = .byte b ln' → y.stage = some b ∧ y.tx = ln'.tx ∧ y.bufA = ln'.bufA ∧ y.bufB = ln'.bufB) ∧
  (from'.supply = .late ∨ from'.supply = .exhausted →
    y.stage = none ∧ y.tx = from'.tx ∧ y.bufA = from'.bufA ∧ y.bufB = from'.bufB)

theorem Lane.filled_refill (ln : Lane) (shift : Option LaneByte) (ldo : Ldo) (ldc : Bool) :
    (ln.withStages shift none ldo ldc).refill.Filled ln := by
  refine ⟨fun b ln' next => ?_, fun next => ?_⟩
  · rw [Lane.refill_of_byte rfl (by rw [Lane.supply_withStages, next]; rfl)]
    exact ⟨rfl, rfl, rfl, rfl⟩
  · rw [Lane.refill_of_no_byte]
    · exact ⟨rfl, rfl, rfl, rfl⟩
    · rw [Lane.supply_withStages]
      exact next.imp (by rw [·]; rfl) (by rw [·]; rfl)

/-! ### A byte moving into the shift stage (R135) -/

/-- LDO as a byte enters the shift stage. -/
def LaneByte.entryLdo (lsbFirst : Bool) : LaneByte → Ldo
  | .cmd v => .driven (firstBit lsbFirst v)
  | .data v => .driven (firstBit lsbFirst v)
  | .clockIn => .released

/-- LDC as a byte enters the shift stage: low for a command byte. -/
def LaneByte.entryLdc : LaneByte → Bool
  | .cmd _ => false
  | .data _ => true
  | .clockIn => true

theorem Lane.advance_eq (ln : Lane) (lsbFirst : Bool) (b : LaneByte) :
    ln.advance lsbFirst b = (ln.withStages (some b) none (b.entryLdo lsbFirst) b.entryLdc).refill := by
  cases b <;> rfl

theorem Lane.advance_lines (ln : Lane) (lsbFirst : Bool) (b : LaneByte) :
    (ln.advance lsbFirst b).ldo = b.entryLdo lsbFirst ∧ (ln.advance lsbFirst b).ldc = b.entryLdc := by
  simp [Lane.advance_eq, Lane.withStages]

theorem Lane.advance_filled (ln : Lane) (lsbFirst : Bool) (b : LaneByte) : (ln.advance lsbFirst b).Filled ln := by
  rw [Lane.advance_eq]
  exact ln.filled_refill _ _ _

/-! ### The end of a byte time in SHIFTING (R134, R135, R138) -/

section
variable {ln ln' : Lane} {b : LaneByte} (ldi : Half)

theorem Lane.byteEnd_of_stage (stage : ln.stage = some b) :
    ln.byteEnd ldi = (ln.capture ldi).advance (ln.capture ldi).order b := by
  have captured : (ln.capture ldi).stage = some b := by simp [stage]
  simp [Lane.byteEnd, Lane.refill_of_stage captured, stage]

theorem Lane.byteEnd_of_byte (stage : ln.stage = none) (next : (ln.capture ldi).supply = .byte b ln') :
    ln.byteEnd ldi = ln'.advance ln'.order b := by
  have captured : (ln.capture ldi).stage = none := by simp [stage]
  rw [Lane.byteEnd, Lane.refill_of_byte captured next]
  rfl

theorem Lane.byteEnd_of_late (stage : ln.stage = none) (next : (ln.capture ldi).supply = .late) :
    ln.byteEnd ldi =
      { ln.capture ldi with link := .stalled, ldo := (ln.capture ldi).restLdo, shift := none } := by
  simp [Lane.byteEnd, Lane.refill_of_no_byte (.inl next), stage, next]

theorem Lane.byteEnd_of_exhausted (stage : ln.stage = none) (next : (ln.capture ldi).supply = .exhausted) :
    ln.byteEnd ldi =
      { ln.capture ldi with link := .ending, shift := none, sel := none, ldo := .driven false, ldc := true } := by
  simp [Lane.byteEnd, Lane.refill_of_no_byte (.inr next), stage, next]

end

/-- A byte time changes neither setup, accounts, clock level nor abort, and adds to the reply what was clocked in. -/
@[simp] theorem Lane.byteEnd_frame (ln : Lane) (ldi : Half) :
    (ln.byteEnd ldi).rateCode = ln.rateCode ∧ (ln.byteEnd ldi).capacity = ln.capacity ∧
    (ln.byteEnd ldi).reserve = ln.reserve ∧ (ln.byteEnd ldi).reserveCredit = ln.reserveCredit ∧
    (ln.byteEnd ldi).lastSelect = ln.lastSelect ∧ (ln.byteEnd ldi).committed = ln.committed ∧
    (ln.byteEnd ldi).cause = ln.cause ∧ (ln.byteEnd ldi).lclk = ln.lclk ∧
    (ln.byteEnd ldi).reply = (ln.capture ldi).reply := by
  cases stage : ln.stage with
  | some b => simp [Lane.byteEnd_of_stage ldi stage]
  | none =>
    cases next : (ln.capture ldi).supply with
    | byte b ln' =>
      have taken := Lane.supply_frame _ ln' b next
      simp_all [Lane.byteEnd_of_byte ldi stage next]
    | late => simp [Lane.byteEnd_of_late ldi stage next]
    | exhausted => simp [Lane.byteEnd_of_exhausted ldi stage next]

/-- The byte of the byte stage moves in, and the byte stage is filled anew. -/
theorem Lane.byteEnd_fills_of_stage (ln : Lane) {b : LaneByte} (ldi : Half) (stage : ln.stage = some b) :
    (ln.byteEnd ldi).shift = some b ∧ (ln.byteEnd ldi).Filled (ln.capture ldi) := by
  rw [Lane.byteEnd_of_stage ldi stage]
  exact ⟨by simp, Lane.advance_filled _ _ _⟩

/-- The lines as the byte of the byte stage moves in. -/
theorem Lane.byteEnd_lines (ln : Lane) {b : LaneByte} (ldi : Half) (stage : ln.stage = some b) :
    let y := ln.byteEnd ldi
    y.link = ln.link ∧ y.sel = ln.sel ∧ y.ldo = b.entryLdo (ln.capture ldi).order ∧ y.ldc = b.entryLdc := by
  simp [Lane.byteEnd_of_stage ldi stage, Lane.advance_lines]

/-- With an empty byte stage the next byte moves in, and the byte stage takes the one after it. -/
theorem Lane.byteEnd_fills_of_byte (ln : Lane) {ln' : Lane} {b : LaneByte} (ldi : Half) (stage : ln.stage = none)
    (next : (ln.capture ldi).supply = .byte b ln') :
    (ln.byteEnd ldi).shift = some b ∧ (ln.byteEnd ldi).Filled ln' := by
  rw [Lane.byteEnd_of_byte ldi stage next]
  exact ⟨by simp, Lane.advance_filled _ _ _⟩

theorem Lane.byteEnd_link_of_byte (ln : Lane) {ln' : Lane} {b : LaneByte} (ldi : Half) (stage : ln.stage = none)
    (next : (ln.capture ldi).supply = .byte b ln') : (ln.byteEnd ldi).link = ln.link := by
  obtain ⟨kept, _⟩ := Lane.supply_frame _ _ _ next
  simp [Lane.byteEnd_of_byte ldi stage next, kept]

/-- With no next byte both stages are empty. -/
theorem Lane.byteEnd_empties (ln : Lane) (ldi : Half) (stage : ln.stage = none)
    (next : (ln.capture ldi).supply = .late ∨ (ln.capture ldi).supply = .exhausted) :
    let y := ln.byteEnd ldi
    y.shift = none ∧ y.stage = none ∧ y.tx = (ln.capture ldi).tx ∧ y.bufA = ln.bufA ∧ y.bufB = ln.bufB := by
  obtain ⟨bufA, bufB⟩ := ln.capture_bufs ldi
  obtain next | next := next
  · simp [Lane.byteEnd_of_late ldi stage next, stage, bufA, bufB]
  · simp [Lane.byteEnd_of_exhausted ldi stage next, stage, bufA, bufB]

theorem Lane.byteEnd_reply (ln : Lane) (ldi : Half) : (ln.byteEnd ldi).reply = (ln.capture ldi).reply := by simp

/-- What a lane is when it differs from another in its transaction, stages, buffers, reply and lines alone. -/
theorem Lane.eq_of_kept {x y : Lane} (rateCode : y.rateCode = x.rateCode) (capacity : y.capacity = x.capacity)
    (reserve : y.reserve = x.reserve) (reserveCredit : y.reserveCredit = x.reserveCredit)
    (lastSelect : y.lastSelect = x.lastSelect) (committed : y.committed = x.committed) (cause : y.cause = x.cause)
    (lclk : y.lclk = x.lclk) :
    y = { x with
      link := y.link, tx := y.tx, shift := y.shift, stage := y.stage, bufA := y.bufA, bufB := y.bufB
      reply := y.reply, sel := y.sel, ldo := y.ldo, ldc := y.ldc } := by
  cases x
  cases y
  simp_all

theorem Lane.byteEnd_eq (ln : Lane) (ldi : Half) :
    let y := ln.byteEnd ldi
    y = { ln with
      link := y.link, tx := y.tx, shift := y.shift, stage := y.stage, bufA := y.bufA, bufB := y.bufB
      reply := (ln.capture ldi).reply, sel := y.sel, ldo := y.ldo, ldc := y.ldc } := by
  obtain ⟨rateCode, capacity, reserve, reserveCredit, lastSelect, committed, cause, lclk, reply⟩ := ln.byteEnd_frame ldi
  rw [← reply]
  exact Lane.eq_of_kept rateCode capacity reserve reserveCredit lastSelect committed cause lclk

/-! ### Row requests (R136) -/

theorem Lane.mayRequest_iff (ln : Lane) : ln.mayRequest = true ↔ ln.link = .shifting ∨ ln.link = .stalled := by
  simp [Lane.mayRequest]

section
variable {s : State} {l : LaneId} {tx : Tx} {d : DrawFeed} (b : BufId)

/-- The state with the strip's next row requested into a buffer. -/
def State.rowRequested (s : State) (l : LaneId) (b : BufId) (tx : Tx) (d : DrawFeed) : State :=
  { s with
    lanes := s.lanes.set l (Lane.setBuf
      { s.lane l with tx := some { tx with feed := .draw { d with next := d.next + 1 } } } b
      (.fetching d.next d.rowLen [] false))
    port := { s.port with
      pixQ := s.port.pixQ.set l (s.port.pixQ[l] ++ requestTxns (ReadOwner.pixel l b) (d.rowAddr d.next) d.rowLen) } }

theorem State.requestRow_of_draw (flight : (s.lane l).tx = some tx) (feed : tx.feed = .draw d) :
    s.requestRow l b =
      if ((s.lane l).link = .shifting ∨ (s.lane l).link = .stalled) ∧ d.next < d.rows ∧ (s.lane l).buf b = .free
      then s.rowRequested l b tx d else s := by
  simp only [State.requestRow, flight, feed, Bool.and_eq_true, Lane.mayRequest_iff, decide_eq_true_eq, and_assoc]
  rfl

end

theorem State.requestRow_of_no_draw {s : State} {l : LaneId} (b : BufId)
    (feed : ∀ tx, (s.lane l).tx = some tx → ∀ d, tx.feed ≠ .draw d) : s.requestRow l b = s := by
  unfold State.requestRow
  dsimp only
  split
  · rfl
  · next tx flight =>
    split
    · next d draw => exact absurd draw (feed tx flight d)
    · rfl

/-! ### The deassertion of an abort (R136, R139) -/

theorem Port.awaits_iff (q : Port) (l : LaneId) (b : BufId) :
    q.awaits l b = true ↔ ∃ x ∈ q.outReads, ∃ off, x.owner = .pixel l b off := by
  rw [Port.awaits, List.any_eq_true]
  refine exists_congr fun x => and_congr_right fun _ => ?_
  cases x.owner <;> simp

/-- A buffer stays reserved exactly while a fetch into it awaits an answer. -/
theorem LineBuf.cut_eq (x : LineBuf) (awaits : Bool) :
    let kept := awaits = true ∧ (x = .reserved ∨ ∃ row want got err, x = .fetching row want got err)
    (kept → x.cut awaits = .reserved) ∧ (¬ kept → x.cut awaits = .free) := by
  cases x with
  | free => simp [LineBuf.cut]
  | held row bytes => simp [LineBuf.cut]
  | fetching row want got err => cases awaits <;> simp [LineBuf.cut]
  | reserved => cases awaits <;> simp [LineBuf.cut]

/-- The state with lane l cut, before the panel table is told. -/
def State.laneCut (s : State) (l : LaneId) : State := s.setLane l (s.cutLane l)

theorem State.deassert_of_ordered {s : State} {l : LaneId} {tx : Tx} {c : AbortCause}
    (flight : (s.lane l).tx = some tx) (ordered : (s.lane l).cause = some c) :
    s.deassert l = (s.laneCut l).reportCut tx.panel c tx.work := by
  simp only [State.deassert, flight, ordered]
  rfl

/-- A deassertion does to the lanes what it does to its own. -/
theorem State.deassert_lanes (s : State) (l : LaneId) : (s.deassert l).lanes = (s.laneCut l).lanes := by
  unfold State.deassert
  dsimp only
  split <;> simp [State.laneCut, State.cutLane]

theorem State.deassert_lane_same (s : State) (l : LaneId) : (s.deassert l).lane l = s.cutLane l := by
  rw [State.lane, State.deassert_lanes]
  exact s.setLane_lane_same l _

theorem State.deassert_lane_ne (s : State) {l m : LaneId} (other : m ≠ l) : (s.deassert l).lane m = s.lane m := by
  rw [State.lane, State.deassert_lanes]
  exact s.setLane_lane_ne other _

/-- Cut by a soft reset or while RESETTING, the report only makes the continuation flag invalid. -/
theorem State.reportCut_of_reset (s : State) (p : PanelId) {c : AbortCause} (work : Work)
    (reset : s.part = .resetting ∨ c = .softReset) :
    s.reportCut p c work = s.modPanel p fun r => { r with cont := false } := by
  unfold State.reportCut
  obtain part | rfl := reset
  · exact if_pos part
  · exact ite_self _

theorem Panel.endParking_cont (r : Panel) : r.endParking.cont = r.cont := by
  unfold Panel.endParking
  split <;> rfl

/-- The report of any cut makes the continuation flag invalid. -/
theorem State.reportCut_cont (s : State) (p : PanelId) (c : AbortCause) (work : Work) :
    ((s.reportCut p c work).panel p).cont = false := by
  unfold State.reportCut
  dsimp only
  split
  · simp
  · cases c <;> simp [Panel.endParking_cont]

/-! ### BYTE_TIME_END -/

section
variable {s : State} {l : LaneId} (ldi : Half)

theorem exec_byteTimeEnd_shifting (link : (s.lane l).link = .shifting) :
    exec (.byteTimeEnd l ldi) s = .next (State.recompute (State.requestRows (s.setLane l ((s.lane l).byteEnd ldi)) l)) := by
  simp [exec, execByteTimeEnd, link, State.modLane]

theorem exec_byteTimeEnd_aborting (link : (s.lane l).link = .aborting) :
    exec (.byteTimeEnd l ldi) s = .next (s.deassert l).commit := by
  simp [exec, execByteTimeEnd, link]

theorem exec_byteTimeEnd_of_no_byte (shifting : (s.lane l).link ≠ .shifting) (aborting : (s.lane l).link ≠ .aborting) :
    exec (.byteTimeEnd l ldi) s = .next s := by
  refine congrArg Host.Outcome.next ?_
  split
  · next link => exact absurd link shifting
  · next link => exact absurd link aborting
  all_goals rfl

end

/-- Lane l changed, rows requested for it, and the level recomputed. -/
def State.moved (s : State) (l : LaneId) (y : Lane) : State := ((s.setLane l y).requestRows l).recompute

theorem State.moved_frame (s : State) (l : LaneId) (y : Lane) :
    s.moved l y =
      { s with lanes := (s.moved l y).lanes, port := (s.moved l y).port, tol := (s.moved l y).tol } := by
  apply State.eq_of_fields <;> simp [State.moved]

theorem State.moved_lane_ne (s : State) {l m : LaneId} (other : m ≠ l) (y : Lane) :
    (s.moved l y).lane m = s.lane m := by
  simp [State.moved, State.requestRows_lane_ne _ other, State.setLane_lane_ne _ other]

/-- Requesting rows leaves what shows on the lane's lines, its shift stage and its reply. -/
theorem State.moved_lane (s : State) (l : LaneId) (y : Lane) :
    ((s.moved l y).lane l).link = y.link ∧ ((s.moved l y).lane l).shift = y.shift ∧
    ((s.moved l y).lane l).sel = y.sel ∧ ((s.moved l y).lane l).ldo = y.ldo ∧ ((s.moved l y).lane l).ldc = y.ldc ∧
    ((s.moved l y).lane l).reply = y.reply := by
  simp [State.moved]

/-- Settles O41: the link states one by one, then row requests, awaited answers and the buffers of a cut strip. -/
theorem byteTimesMoveTheTransactionOn : Obligations.ByteTimesMoveTheTransactionOn := by
  refine ⟨fun s l ldi => ?_, fun s l => rfl, fun s l b tx d flight feed => ?_,
    fun s l b => State.requestRow_of_no_draw b, Port.awaits_iff, LineBuf.cut_eq⟩
  · intro ln cap filled
    refine ⟨fun shifting => ⟨ln.byteEnd ldi, exec_byteTimeEnd_shifting ldi shifting, ln.byteEnd_eq ldi,
        fun b => ln.byteEnd_fills_of_stage ldi, fun b ln' => ln.byteEnd_fills_of_byte ldi, fun stage next => ?_⟩,
      fun tx flight => ⟨fun shift => Lane.capture_tx ldi shift flight, Lane.capture_of_not_clockIn ldi⟩,
      fun shifting => ⟨s.moved l (ln.byteEnd ldi), exec_byteTimeEnd_shifting ldi shifting, s.moved_frame l _,
        fun _ other => s.moved_lane_ne other _, ?_⟩,
      fun aborting => ⟨s.deassert l, exec_byteTimeEnd_aborting ldi aborting, fun _ other => s.deassert_lane_ne other,
        ?_⟩,
      exec_byteTimeEnd_of_no_byte ldi⟩
    · exact ln.byteEnd_empties ldi stage next
    · obtain ⟨link, shift, sel, ldo, ldc, reply⟩ := s.moved_lane l (ln.byteEnd ldi)
      rw [link, shift, sel, ldo, ldc, reply, Lane.byteEnd_reply]
      refine ⟨fun b stage => ?_, fun b ln' stage next => ?_, fun stage next => ?_, fun stage next => ?_,
        fun tx shift flight => ⟨fun due => by rw [Lane.capture_of_dummy ldi shift flight due], fun spent => ?_⟩⟩
      · obtain ⟨link, sel, ldo, ldc⟩ := ln.byteEnd_lines ldi stage
        obtain ⟨entered, _⟩ := ln.byteEnd_fills_of_stage ldi stage
        rw [link, sel, ldc, entered]
        refine ⟨shifting, rfl, rfl, ?_, ?_, ?_⟩
        · rintro ⟨v, rfl⟩
          rfl
        · rintro ⟨v, rfl⟩
          rfl
        · rintro rfl
          exact ⟨rfl, ldo⟩
      · obtain ⟨entered, _⟩ := ln.byteEnd_fills_of_byte ldi stage next
        exact ⟨(ln.byteEnd_link_of_byte ldi stage next).trans shifting, entered⟩
      · simp [Lane.byteEnd_of_late ldi stage next]
      · simp [Lane.byteEnd_of_exhausted ldi stage next]
      · rw [Lane.capture_of_reply ldi shift flight spent]
        exact ⟨_, rfl, fun n inside => getLsbD_assembleBits tx.mode tx.lsbFirst ldi inside⟩
    · rw [State.deassert_lane_same]
      refine ⟨rfl, rfl, rfl, rfl, rfl, rfl, rfl, rfl, fun tx c flight ordered => ?_⟩
      rw [State.deassert_of_ordered flight ordered]
      refine ⟨State.reportCut_cont _ _ _ _, fun reset => ?_⟩
      rw [State.reportCut_of_reset (s.laneCut l) _ _ reset]
      exact ⟨rfl, fun q other => State.modPanel_panel_ne _ other _, State.modPanel_panel_same _ _ _⟩
  · intro due len
    rw [State.requestRow_of_draw b flight feed]
    exact ⟨fun asked => if_pos asked, fun kept => if_neg kept⟩

end Sys2Proof.Machine
end

section
/-! PROOFS. MEMORY_REQUEST_SENT: what each class of the request arbiter sends, and which class is the first that can
(R156, R158, R159). -/
namespace Sys2Proof.Machine

/-! ### Class 1: pixel fetches in round robin (R158) -/

/-- The lanes stand in the order of their distance from the lane after the one last served. -/
theorem lanesAfter_pairwise (last : LaneId) :
    (lanesAfter last).Pairwise fun l m => (l - (last + 1)).val ≤ (m - (last + 1)).val := by
  revert last; decide

@[simp] theorem mem_lanesAfter (last l : LaneId) : l ∈ lanesAfter last := by
  revert last l; decide

theorem Port.class1_of_empty (q : Port) (empty : ∀ l : LaneId, q.pixQ[l] = []) : q.class1 = none :=
  List.findSome?_eq_none_iff.mpr fun l _ => by simp only [empty l]

/-- A waiting lane's first fetch is sent, and every other waiting lane stands further from the lane last served. -/
theorem Port.class1_of_waiting (q : Port) (waiting : ∃ l : LaneId, q.pixQ[l] ≠ []) :
    ∃ (l : LaneId) (x : ReadTxn) (rest : List ReadTxn), q.pixQ[l] = x :: rest ∧
      q.class1 = some { q with pixQ := q.pixQ.set l rest, outReads := q.outReads ++ [x], lastLane := l } ∧
      ∀ m : LaneId, q.pixQ[m] ≠ [] → (l - (q.lastLane + 1)).val ≤ (m - (q.lastLane + 1)).val := by
  cases sent : q.class1 with
  | none =>
    obtain ⟨l, waits⟩ := waiting
    have skipped := List.findSome?_eq_none_iff.mp sent l (mem_lanesAfter _ l)
    split at skipped
    · contradiction
    · simp at skipped
  | some q' =>
    obtain ⟨earlier, l, later, order, served, skipped⟩ := List.findSome?_eq_some_iff.mp sent
    split at served
    · simp at served
    · next x rest head =>
      refine ⟨l, x, rest, head, served.symm, fun m waits => ?_⟩
      have ascending := lanesAfter_pairwise q.lastLane
      have listed := mem_lanesAfter q.lastLane m
      rw [order] at ascending listed
      rcases List.mem_append.mp listed with early | late
      · have empty := skipped m early
        split at empty
        · contradiction
        · simp at empty
      · rcases List.mem_cons.mp late with rfl | late
        · exact Nat.le_refl _
        · exact List.rel_of_pairwise_cons (List.pairwise_append.mp ascending).2.1 late

/-! ### Writes, in the order taken (R158, R159) -/

/-- The oldest write is sent in its own class: a control write as the last of class 4, any other as class 2. -/
theorem Port.sendWrite_of_oldest (q : Port) {w : WriteTxn} {rest : List WriteTxn} (oldest : q.writeQ = w :: rest)
    {report : Bool} (cls : (w.kind == .report) = report) :
    q.sendWrite report = some { q with writeQ := rest, outWrites := q.outWrites ++ [w] } := by
  simp [Port.sendWrite, oldest, cls]

theorem Port.sendWrite_of_empty (q : Port) (empty : q.writeQ = []) (report : Bool) : q.sendWrite report = none := by
  simp [Port.sendWrite, empty]

theorem Port.sendWrite_of_other_class (q : Port) {w : WriteTxn} {rest : List WriteTxn} (oldest : q.writeQ = w :: rest)
    {report : Bool} (cls : (w.kind == .report) ≠ report) : q.sendWrite report = none := by
  simp [Port.sendWrite, oldest, cls]

/-! ### Class 3: chain reads that are not held (R159) -/

theorem Port.class3_of_held (q : Port) (held : ∀ x ∈ q.chainQ, ¬ notHeld q x) : q.class3 = none := by
  have none_found : q.chainQ.find? (fun x => !q.heldRead x) = none := List.find?_eq_none.mpr fun x queued => by
    simpa [← Port.heldRead_eq_false_iff] using held x queued
  simp [Port.class3, none_found]

/-- The oldest chain read that is not held is sent, the held ones before it and the others after it stay. -/
theorem Port.class3_of_notHeld (q : Port) (free : ∃ x ∈ q.chainQ, notHeld q x) :
    ∃ before x after, q.chainQ = before ++ x :: after ∧ notHeld q x ∧ (∀ y ∈ before, ¬ notHeld q y) ∧
      q.class3 = some { q with chainQ := before ++ after, outReads := q.outReads ++ [x] } := by
  cases found : q.chainQ.find? fun x => !q.heldRead x with
  | none =>
    obtain ⟨x, queued, notheld⟩ := free
    have held := List.find?_eq_none.mp found x queued
    simp [(Port.heldRead_eq_false_iff q x).mpr notheld] at held
  | some x =>
    obtain ⟨xFree, before, after, queue, beforeHeld⟩ := List.find?_eq_some_iff_append.mp found
    have notheld : notHeld q x := (Port.heldRead_eq_false_iff q x).mp (by simpa using xFree)
    have held : ∀ y ∈ before, ¬ notHeld q y := fun y mem => by
      simpa [← Port.heldRead_eq_false_iff] using beforeHeld y mem
    refine ⟨before, x, after, queue, notheld, held, ?_⟩
    have removed : q.chainQ.erase x = before ++ after := by
      rw [queue, List.erase_append_right _ fun mem => held x mem notheld, List.erase_cons_head]
    simp [Port.class3, found, removed]

/-! ### Class 4: the control read (R158) -/

theorem Port.class4_of_empty (q : Port) (empty : q.ctlQ = []) : q.class4 = none := by
  simp [Port.class4, empty]

theorem Port.class4_of_next (q : Port) {x : ReadTxn} {rest : List ReadTxn} (next : q.ctlQ = x :: rest) :
    q.class4 = some { q with ctlQ := rest, outReads := q.outReads ++ [x] } := by
  simp [Port.class4, next]

/-! ### The first class that holds a sendable request (R158) -/

/-- A class that lacks room or a request of its own sends nothing. -/
theorem whenRoom_eq_none {room : Bool} {fits holds : Prop} {x : Option Port} (room_iff : room = true ↔ fits)
    (blocked : ¬ (fits ∧ holds)) (idle : ¬ holds → x = none) : whenRoom room x = none := by
  cases room with
  | false => rfl
  | true => exact idle fun h => blocked ⟨room_iff.mp rfl, h⟩

theorem whenRoom_of_room {room : Bool} (x : Option Port) (h : room = true) : whenRoom room x = x := if_pos h

theorem Port.readRoom_iff (q : Port) : q.readRoom = true ↔ q.outReads.length < 8 := decide_eq_true_iff

theorem Port.writeRoom_iff (q : Port) : q.writeRoom = true ↔ q.outWrites.length < 4 := decide_eq_true_iff

/-- A pixel fetch can be sent. -/
def Port.canFetch (q : Port) : Prop := q.outReads.length < 8 ∧ ∃ l : LaneId, q.pixQ[l] ≠ []

/-- A write of class 2 can be sent: the oldest write is none of a report. -/
def Port.canWrite (q : Port) : Prop :=
  q.outWrites.length < 4 ∧ ∃ w rest, q.writeQ = w :: rest ∧ w.kind ≠ .report

/-- A chain read can be sent. -/
def Port.canRead (q : Port) : Prop := q.outReads.length < 8 ∧ ∃ x ∈ q.chainQ, notHeld q x

/-- A control read can be sent. -/
def Port.canControl (q : Port) : Prop := q.outReads.length < 8 ∧ q.ctlQ ≠ []

section
variable {q : Port}

theorem Port.fetch_blocked (h : ¬ q.canFetch) : whenRoom q.readRoom q.class1 = none :=
  whenRoom_eq_none q.readRoom_iff h fun none_waits => q.class1_of_empty (by simpa using none_waits)

theorem Port.write_blocked (h : ¬ q.canWrite) : whenRoom q.writeRoom (q.sendWrite false) = none := by
  refine whenRoom_eq_none q.writeRoom_iff h fun none_waits => ?_
  cases queue : q.writeQ with
  | nil => exact q.sendWrite_of_empty queue _
  | cons w rest => exact q.sendWrite_of_other_class queue fun cls => none_waits ⟨w, rest, queue, by simpa using cls⟩

theorem Port.read_blocked (h : ¬ q.canRead) : whenRoom q.readRoom q.class3 = none :=
  whenRoom_eq_none q.readRoom_iff h fun all_held => q.class3_of_held (by simpa using all_held)

theorem Port.control_blocked (h : ¬ q.canControl) : whenRoom q.readRoom q.class4 = none :=
  whenRoom_eq_none q.readRoom_iff h fun none_waits => q.class4_of_empty (Decidable.not_not.mp none_waits)

theorem Port.send_eq : q.send =
    (whenRoom q.readRoom q.class1).or ((whenRoom q.writeRoom (q.sendWrite false)).or
      ((whenRoom q.readRoom q.class3).or ((whenRoom q.readRoom q.class4).or
        (whenRoom q.writeRoom (q.sendWrite true))))) := by
  simp only [Port.send, Option.orElse_eq_orElse, Option.orElse_eq_or]

theorem Port.send_of_fetch (can : q.canFetch) {q' : Port} (sent : q.class1 = some q') : q.send = some q' := by
  rw [Port.send_eq, whenRoom_of_room q.class1 (q.readRoom_iff.mpr can.1), sent, Option.some_or]

theorem Port.send_of_write (fetch : ¬ q.canFetch) (can : q.canWrite) {q' : Port} (sent : q.sendWrite false = some q') :
    q.send = some q' := by
  rw [Port.send_eq, Port.fetch_blocked fetch, Option.none_or,
    whenRoom_of_room (q.sendWrite false) (q.writeRoom_iff.mpr can.1), sent, Option.some_or]

theorem Port.send_of_read (fetch : ¬ q.canFetch) (write : ¬ q.canWrite) (can : q.canRead) {q' : Port}
    (sent : q.class3 = some q') : q.send = some q' := by
  rw [Port.send_eq, Port.fetch_blocked fetch, Port.write_blocked write, Option.none_or, Option.none_or,
    whenRoom_of_room q.class3 (q.readRoom_iff.mpr can.1), sent, Option.some_or]

theorem Port.send_of_control (fetch : ¬ q.canFetch) (write : ¬ q.canWrite) (read : ¬ q.canRead) (can : q.canControl)
    {q' : Port} (sent : q.class4 = some q') : q.send = some q' := by
  rw [Port.send_eq, Port.fetch_blocked fetch, Port.write_blocked write, Port.read_blocked read, Option.none_or,
    Option.none_or, Option.none_or, whenRoom_of_room q.class4 (q.readRoom_iff.mpr can.1), sent, Option.some_or]

/-- With no other class to send from, what is left is a control write. -/
theorem Port.send_of_rest (fetch : ¬ q.canFetch) (write : ¬ q.canWrite) (read : ¬ q.canRead)
    (control : ¬ q.canControl) : q.send = whenRoom q.writeRoom (q.sendWrite true) := by
  rw [Port.send_eq, Port.fetch_blocked fetch, Port.write_blocked write, Port.read_blocked read,
    Port.control_blocked control, Option.none_or, Option.none_or, Option.none_or, Option.none_or]

end

/-! ### MEMORY_REQUEST_SENT -/

theorem exec_memoryRequestSent_of_none {s : State} (nothing : s.port.send = none) :
    exec .memoryRequestSent s = .next s := by
  simp [exec, execMemoryRequestSent, nothing]

theorem exec_memoryRequestSent_of_some {s : State} {q : Port} (sent : s.port.send = some q) :
    exec .memoryRequestSent s = .next (s.setPort q).recompute := by
  simp [exec, execMemoryRequestSent, sent]

/-- The port becomes what its arbiter sends, and the level is recomputed. -/
theorem exec_memoryRequestSent (s : State) : ∃ t, exec .memoryRequestSent s = .next t ∧
    t = { s with port := t.port, tol := t.tol } ∧ ∀ q, s.port.send = some q → t.port = q := by
  cases sent : s.port.send with
  | none => exact ⟨s, exec_memoryRequestSent_of_none sent, rfl, fun q h => by simp at h⟩
  | some q =>
    refine ⟨(s.setPort q).recompute, exec_memoryRequestSent_of_some sent, ?_, fun q' same => ?_⟩
    · apply State.eq_of_fields <;> simp
    · simpa using same

/-- Settles O26: the classes are tried in their order, and each sends what its own lemma says. -/
theorem portSendsTheFirstSendableClass : Obligations.PortSendsTheFirstSendableClass := by
  intro s
  obtain ⟨t, ran, frame, port⟩ := exec_memoryRequestSent s
  refine ⟨t, ran, frame, fun one => ?_, fun one two => ?_, fun one two three => ?_, fun one two three four => ?_,
    fun one two three four w rest room queue => ?_, fun one two three four idle => ?_⟩
  · obtain ⟨l, x, rest, queue, sent, first⟩ := s.port.class1_of_waiting one.2
    exact ⟨l, x, rest, queue, port _ (Port.send_of_fetch one sent), first⟩
  · have ⟨_, w, rest, queue, kind⟩ := two
    have sent := s.port.sendWrite_of_oldest queue (report := false) (by simpa using kind)
    exact ⟨w, rest, queue, port _ (Port.send_of_write one two sent)⟩
  · obtain ⟨before, x, after, queue, free, held, sent⟩ := s.port.class3_of_notHeld three.2
    exact ⟨before, x, after, queue, free, held, port _ (Port.send_of_read one two three sent)⟩
  · obtain ⟨x, rest, queue⟩ := List.exists_cons_of_ne_nil four.2
    exact ⟨x, rest, queue, port _ (Port.send_of_control one two three four (s.port.class4_of_next queue))⟩
  · have kind : w.kind = .report := Decidable.byContradiction fun other => two ⟨room, w, rest, queue, other⟩
    have sent := s.port.sendWrite_of_oldest queue (report := true) (by simpa using kind)
    refine port _ ?_
    rw [Port.send_of_rest one two three four, whenRoom_of_room _ (s.port.writeRoom_iff.mpr room), sent]
  · refine exec_memoryRequestSent_of_none ?_
    rw [Port.send_of_rest one two three four]
    exact whenRoom_eq_none s.port.writeRoom_iff idle fun empty => s.port.sendWrite_of_empty (Decidable.not_not.mp empty) _

end Sys2Proof.Machine
end

section
/-! PROOFS. Responses outside the bus contract stop the model (R156, log 4). -/
namespace Sys2Proof.Machine

/-! ### Responses to reads and to writes -/

theorem State.answerRead_of_nobody (s : State) {own : ReadOwner → Bool}
    (nobody : ∀ x ∈ s.port.outReads, own x.owner = false) (resp : ReadResp) (k : Option (List Byte) → State → State) :
    s.answerRead own resp k = .fault .noSuchTransaction := by
  have found : s.port.outReads.find? (fun x => own x.owner) = none :=
    List.find?_eq_none.mpr fun x out => by simp [nobody x out]
  simp [State.answerRead, found]

theorem State.answerRead_of_wrongLength (s : State) {own : ReadOwner → Bool} {x : ReadTxn} {bs : List Byte}
    (awaited : s.Outstanding own x) (length : bs.length ≠ x.len) (k : Option (List Byte) → State → State) :
    s.answerRead own (.ok bs) k = .fault .wrongLength := by
  unfold State.Outstanding at awaited
  simp [State.answerRead, awaited, length]

theorem State.answerWrite_of_nothing (s : State) (nothing : s.port.outWrites = []) (want : WriteKind → Bool)
    (k : WriteTxn → State → State) : s.answerWrite want k = .fault .noSuchTransaction := by
  simp [State.answerWrite, nothing]

theorem State.answerWrite_of_other_kind (s : State) {w : WriteTxn} {rest : List WriteTxn}
    (oldest : s.port.outWrites = w :: rest) {want : WriteKind → Bool} (other : want w.kind = false)
    (k : WriteTxn → State → State) : s.answerWrite want k = .fault .noSuchTransaction := by
  simp [State.answerWrite, oldest, other]

/-! ### Whose response a command is -/

/-- A response at an offset is to no read but the control read's transaction there, whatever record it reads. -/
theorem ReadOwner.isControl_eq_false (isKind : RecordKind → Bool) {off : Nat} {o : ReadOwner}
    (other : ∀ k : RecordKind, o ≠ .control k off) : o.isControl isKind off = false := by
  cases o with
  | control k at' =>
    have apart : at' ≠ off := fun same => other k (same ▸ rfl)
    simp [ReadOwner.isControl, apart]
  | pixel | ticket | link => rfl

theorem WriteKind.isTaken_eq_false {k : WriteKind} (other : ∀ p, k ≠ .taken p) : k.isTaken = false := by
  cases k with
  | taken p => exact absurd rfl (other p)
  | status | reply | report => rfl

theorem WriteKind.isStatus_eq_false {k : WriteKind} (other : ∀ p st notify ofRequest, k ≠ .status p st notify ofRequest) :
    k.isStatus = false := by
  cases k with
  | status p st notify ofRequest => exact absurd rfl (other p st notify ofRequest)
  | taken | reply | report => rfl

theorem WriteKind.isReply_eq_false {k : WriteKind} (other : ∀ p, k ≠ .reply p) : k.isReply = false := by
  cases k with
  | reply p => exact absurd rfl (other p)
  | taken | status | report => rfl

/-! ### The eleven commands that are responses -/

section
variable (s : State)

theorem exec_ticketReadAnswered (p : PanelId) (resp : ReadResp) :
    exec (.ticketReadAnswered p resp) s =
      s.answerRead (· == .ticket p) resp fun bs s => s.unlessResetting fun s => s.ticketRead p bs := rfl

theorem exec_linkPollAnswered (p : PanelId) (resp : ReadResp) :
    exec (.linkPollAnswered p resp) s =
      s.answerRead (· == .link p) resp fun bs s => s.unlessResetting fun s => s.linkPolled p bs := rfl

theorem exec_pixelFetchAnswered (l : LaneId) (b : BufId) (off : Nat) (resp : ReadResp) :
    exec (.pixelFetchAnswered l b off resp) s =
      s.answerRead (ReadOwner.isPixel l b off) resp fun bs s =>
        if s.part = .resetting then s.pixelDiscarded l b else (s.pixelAnswered l b off bs).commit := rfl

theorem exec_profileReadAnswered (off : Nat) (resp : ReadResp) :
    exec (.profileReadAnswered off resp) s = s.answerControl RecordKind.isProfile off resp finishProfile := rfl

theorem exec_laneRecordReadAnswered (off : Nat) (resp : ReadResp) :
    exec (.laneRecordReadAnswered off resp) s = s.answerControl RecordKind.isLaneRecord off resp finishLane := rfl

theorem exec_toleranceReadAnswered (off : Nat) (resp : ReadResp) :
    exec (.toleranceReadAnswered off resp) s = s.answerControl RecordKind.isTolerance off resp finishTolerance := rfl

theorem exec_descriptorReadAnswered (off : Nat) (resp : ReadResp) :
    exec (.descriptorReadAnswered off resp) s =
      s.answerControl RecordKind.isDescriptor off resp finishDescriptor := rfl

theorem exec_takenWriteAnswered (resp : WriteResp) :
    exec (.takenWriteAnswered resp) s =
      s.answerWrite WriteKind.isTaken fun w s => s.unlessResetting fun s => s.takenAnswered w.kind resp := rfl

theorem exec_statusWriteAnswered (resp : WriteResp) :
    exec (.statusWriteAnswered resp) s =
      s.answerWrite WriteKind.isStatus fun w s => s.unlessResetting fun s => s.statusAnswered w.kind resp := rfl

theorem exec_replyWriteAnswered (resp : WriteResp) :
    exec (.replyWriteAnswered resp) s =
      s.answerWrite WriteKind.isReply fun w s => s.unlessResetting fun s => s.replyAnswered w.kind resp := rfl

theorem exec_reportWriteAnswered (resp : WriteResp) :
    exec (.reportWriteAnswered resp) s =
      s.answerWrite (· == .report) fun _ s =>
        if s.part = .resetting then s else (s.reportAnswered resp).recompute := rfl

end

/-- Settles O27: each response command answers a read or a write, and that answer stops as its law says. -/
theorem responsesNobodyAwaitsAreFaults : Obligations.ResponsesNobodyAwaitsAreFaults := by
  intro s
  refine ⟨fun p resp nobody => ?_, fun p resp nobody => ?_, fun l b off resp nobody => ?_, fun off resp nobody => ?_,
    fun resp nothing => ?_, fun p x bs awaited length => ?_, fun p x bs awaited length => ?_,
    fun l b off x bs awaited length => ?_, fun off x bs length => ?_, fun w rest resp oldest => ?_⟩
  · rw [exec_ticketReadAnswered]
    refine s.answerRead_of_nobody (fun x out => ?_) ..
    exact beq_false_of_ne (nobody x out)
  · rw [exec_linkPollAnswered]
    refine s.answerRead_of_nobody (fun x out => ?_) ..
    exact beq_false_of_ne (nobody x out)
  · rw [exec_pixelFetchAnswered]
    refine s.answerRead_of_nobody (fun x out => ?_) ..
    exact beq_false_of_ne (nobody x out)
  · rw [exec_profileReadAnswered, exec_laneRecordReadAnswered, exec_toleranceReadAnswered,
      exec_descriptorReadAnswered]
    have stops (isKind finish) : s.answerControl isKind off resp finish = .fault .noSuchTransaction :=
      s.answerRead_of_nobody (fun x out => ReadOwner.isControl_eq_false isKind (nobody x out)) ..
    exact ⟨stops .., stops .., stops .., stops ..⟩
  · rw [exec_takenWriteAnswered, exec_statusWriteAnswered, exec_replyWriteAnswered, exec_reportWriteAnswered]
    have stops (want k) : s.answerWrite want k = .fault .noSuchTransaction := s.answerWrite_of_nothing nothing want k
    exact ⟨stops .., stops .., stops .., stops ..⟩
  · rw [exec_ticketReadAnswered]
    exact s.answerRead_of_wrongLength awaited length _
  · rw [exec_linkPollAnswered]
    exact s.answerRead_of_wrongLength awaited length _
  · rw [exec_pixelFetchAnswered]
    exact s.answerRead_of_wrongLength awaited length _
  · rw [exec_profileReadAnswered, exec_laneRecordReadAnswered, exec_toleranceReadAnswered,
      exec_descriptorReadAnswered]
    have stops (isKind finish) (awaited : s.Outstanding (ReadOwner.isControl isKind off) x) :
        s.answerControl isKind off (.ok bs) finish = .fault .wrongLength :=
      s.answerRead_of_wrongLength awaited length _
    exact ⟨stops _ _, stops _ _, stops _ _, stops _ _⟩
  · rw [exec_takenWriteAnswered, exec_statusWriteAnswered, exec_replyWriteAnswered, exec_reportWriteAnswered]
    have stops (want k) (other : want w.kind = false) : s.answerWrite want k = .fault .noSuchTransaction :=
      s.answerWrite_of_other_kind oldest other k
    exact ⟨fun other => stops _ _ (WriteKind.isTaken_eq_false other),
      fun other => stops _ _ (WriteKind.isStatus_eq_false other),
      fun other => stops _ _ (WriteKind.isReply_eq_false other), fun other => stops _ _ (beq_false_of_ne other)⟩

end Sys2Proof.Machine
end

section
/-! PROOFS. TOL_ACCEPT and TOL_ACCEPT_LOW (R165). -/
namespace Sys2Proof.Machine

/-! ### A message accepted -/

theorem Tolerance.accept_of_none {t : Tolerance} (none_sent : t.inFlight = none) : t.accept = t := by
  simp [Tolerance.accept, none_sent]

theorem Tolerance.accept_of_slot {t : Tolerance} (sent : t.inFlight ≠ none) {v : Half} (waits : t.slot = some v) :
    t.accept = { t with inFlight := some v, slot := none } := by
  obtain ⟨m, flight⟩ := Option.ne_none_iff_exists'.mp sent
  simp [Tolerance.accept, flight, waits]

theorem Tolerance.accept_of_last {t : Tolerance} (sent : t.inFlight ≠ none) (last : t.slot = none) :
    t.accept = { t with inFlight := none } := by
  obtain ⟨m, flight⟩ := Option.ne_none_iff_exists'.mp sent
  simp [Tolerance.accept, flight, last]

/-- An accept changes the message in flight and the pending slot alone. -/
theorem Tolerance.accept_frame (t : Tolerance) :
    t.accept = { t with inFlight := t.accept.inFlight, slot := t.accept.slot } := by
  unfold Tolerance.accept
  split <;> rfl

/-! ### The input TOL_ACCEPT -/

theorem exec_tolAccept_of_high {s : State} (high : s.pins.tolAccept = true) : exec .tolAccept s = .next s :=
  congrArg Host.Outcome.next (if_pos high)

theorem exec_tolAccept_of_low {s : State} (low : s.pins.tolAccept = false) :
    exec .tolAccept s = .next ((s.setPins { s.pins with tolAccept := true }).setTol s.tol.accept) :=
  congrArg Host.Outcome.next (if_neg (Bool.eq_false_iff.mp low))

/-- Settles O54: a rise accepts once, and what an accept does turns on the message in flight and the pending slot. -/
theorem acceptsEndTheMessageInFlight : Obligations.AcceptsEndTheMessageInFlight := by
  refine fun s => ⟨exec_tolAccept_of_high, fun low => ⟨_, exec_tolAccept_of_low low, rfl, s.tol.accept_frame,
    fun none_sent => Tolerance.accept_of_none none_sent, fun v sent waits => ?_, fun sent last => ?_⟩, rfl⟩
  · simp [Tolerance.accept_of_slot sent waits]
  · simp [Tolerance.accept_of_last sent last, last, State.tolValid]

end Sys2Proof.Machine
end

section
/-! PROOFS. The tolerance reporter: a recompute's level and message, and the predicted idle time term by term (R163 to
R165, log 34). -/
namespace Sys2Proof.Machine

/-! ### The level a recompute gives (R164) -/

theorem TolLevel.follow_of_le {cur comp : TolLevel} (rises : cur.rank ≤ comp.rank) (policy : TolPolicy) :
    cur.follow comp policy = comp := if_neg (by omega)

/-- A fall is followed to the computed level under STEPPED, and down to ACTIVE under DIRECT. -/
theorem TolLevel.follow_of_lt {cur comp : TolLevel} (falls : comp.rank < cur.rank) :
    cur.follow comp .stepped = comp ∧ cur.follow comp .direct = .active := ⟨if_pos falls, if_pos falls⟩

theorem State.newLevel_of_inactive {s : State} (inactive : s.part = .resetting ∨ s.tol.loaded = false) :
    s.newLevel = .active := if_pos (by simpa using inactive)

theorem State.newLevel_of_loaded {s : State} (part : s.part ≠ .resetting) (loaded : s.tol.loaded = true) :
    s.newLevel = s.tol.level.follow (s.tol.record.levelOf s.predictedIdle) s.tol.record.policy :=
  if_neg (by simp [part, loaded])

/-! ### The message of a change of level (R164, R165) -/

/-- The lesser of the level's value and the limit. -/
theorem TolRecord.message_toNat (r : TolRecord) (l : TolLevel) :
    (r.message l).toNat = min (r.valueOf l).toNat r.limit.toNat := by
  unfold TolRecord.message
  split
  · next above => exact (Nat.min_eq_right (Nat.le_of_lt (BitVec.lt_def.mp above))).symm
  · next within => exact (Nat.min_eq_left (by simpa [BitVec.lt_def] using within)).symm

section
variable {s : State}

theorem State.recompute_of_same (same : s.newLevel = s.tol.level) : s.recompute = s := if_pos same

theorem State.recompute_of_change (change : s.newLevel ≠ s.tol.level) :
    s.recompute = (s.setTol { s.tol with level := s.newLevel }).sendLevel := if_neg change

theorem State.sendLevel_of_disabled (off : s.ctl.tolEnable = false) : s.sendLevel = s := by
  simp [State.sendLevel, off]

theorem State.sendLevel_of_quiet (on : s.ctl.tolEnable = true) (quiet : s.tol.inFlight = none) :
    s.sendLevel = s.setTol { s.tol with inFlight := some (s.tol.record.message s.tol.level) } := by
  simp [State.sendLevel, Tolerance.send, on, quiet]

theorem State.sendLevel_of_flight (on : s.ctl.tolEnable = true) (flight : s.tol.inFlight ≠ none) :
    s.sendLevel = s.setTol { s.tol with slot := some (s.tol.record.message s.tol.level) } := by
  obtain ⟨v, sent⟩ := Option.ne_none_iff_exists'.mp flight
  simp [State.sendLevel, Tolerance.send, on, sent]

theorem Tolerance.send_level (t : Tolerance) (v : Half) : (t.send v).level = t.level := by
  unfold Tolerance.send
  split <;> rfl

/-- A recompute leaves the level it computes, whether or not a message goes out. -/
theorem State.recompute_level (s : State) : s.recompute.tol.level = s.newLevel := by
  by_cases same : s.newLevel = s.tol.level
  · rw [State.recompute_of_same same, same]
  · rw [State.recompute_of_change same, State.sendLevel]
    split
    · exact Tolerance.send_level ..
    · rfl

end

/-! ### The terms of one panel (R163) -/

/-- The least n from 1 to I that brings the count to the panel's number, modulo I. -/
theorem dueTerm_spec (count : Word) (p : PanelId) {interval : Nat} (positive : 0 < interval) :
    1 ≤ dueTerm count p interval ∧ dueTerm count p interval ≤ interval ∧
      (count.toNat + dueTerm count p interval) % interval = p.val % interval := by
  refine ⟨Nat.le_add_left .., Nat.mod_lt _ positive, ?_⟩
  have due : p.val % interval < interval := Nat.mod_lt _ positive
  have now : count.toNat % interval < interval := Nat.mod_lt _ positive
  have split := Nat.div_add_mod count.toNat interval
  calc (count.toNat + dueTerm count p interval) % interval
      _ = (count.toNat + (p.val % interval + interval - count.toNat % interval - 1) + 1) % interval := by
        rw [dueTerm, ← Nat.add_assoc, Nat.add_right_comm, Nat.add_mod_mod, Nat.add_right_comm]
      _ = (p.val % interval + interval * (count.toNat / interval + 1)) % interval := by
        congr 1
        rw [Nat.mul_succ]
        omega
      _ = p.val % interval := by rw [Nat.add_mul_mod_self_left, Nat.mod_mod]

/-- R105's conditions. -/
theorem Panel.gated_iff (r : Panel) : r.gated = true ↔
    r.desc.policy = .blank ∧ r.display = .awake ∧ (r.tear.state ≠ .untracked ∨ r.desc.fallback = .wait) := by
  simp [Panel.gated, and_assoc]

/-- The tear term stands on the three conditions that R163 lists, and no other. -/
theorem State.tearTerm_eq_some_iff (s : State) (p : PanelId) (n : Nat) : s.tearTerm p = some n ↔
    (s.panel p).gated = true ∧ (s.panel p).tear.estimate ≠ 0 ∧
      (∃ pl, (s.panel p).planUnder (s.profileOf p) (min (s.panel p).credit (s.panel p).desc.budget) = some pl ∧
        1 ≤ pl.rows) ∧
      n = ((s.panel p).tear.lastTe + BitVec.ofNat 32 (s.panel p).tear.estimate - s.timer.count).toInt.toNat := by
  cases plan : (s.panel p).planUnder (s.profileOf p) (min (s.panel p).credit (s.panel p).desc.budget) with
  | none => simp [State.tearTerm, plan]
  | some pl => simp [State.tearTerm, plan, and_assoc, eq_comm (a := n)]

theorem State.idleTerm_of_none {s : State} {p : PanelId} (h : s.tearTerm p = none) :
    s.idleTerm p = dueTerm s.timer.count p (s.panel p).desc.interval := by
  simp [State.idleTerm, h]

theorem State.idleTerm_of_some {s : State} {p : PanelId} {n : Nat} (h : s.tearTerm p = some n) :
    s.idleTerm p = min (dueTerm s.timer.count p (s.panel p).desc.interval) n := by
  simp [State.idleTerm, h, Nat.min_comm]

/-! ### The least of several terms -/

section
variable {α : Type} (f : α → Nat) (xs : List α) (start : Nat)

theorem foldl_min_eq : xs.foldl (fun d x => min d (f x)) start = min start ((xs.map f).min?.getD start) := by
  rw [← List.foldl_min, List.foldl_map]

theorem foldl_min_le_of_mem {x : α} (mem : x ∈ xs) : xs.foldl (fun d x => min d (f x)) start ≤ f x := by
  rw [foldl_min_eq]
  exact Nat.le_trans (Nat.min_le_right ..) (List.min?_getD_le_of_mem (List.mem_map_of_mem mem))

theorem foldl_min_attained :
    xs.foldl (fun d x => min d (f x)) start = start ∨ ∃ x ∈ xs, xs.foldl (fun d x => min d (f x)) start = f x := by
  rw [foldl_min_eq]
  cases least : (xs.map f).min? with
  | none => exact .inl (Nat.min_self start)
  | some n =>
    obtain ⟨x, mem, rfl⟩ := List.mem_map.mp (List.min?_mem least)
    rcases Nat.le_total start (f x) with le | le
    · exact .inl (Nat.min_eq_left le)
    · exact .inr ⟨x, mem, Nat.min_eq_right le⟩

end

/-! ### The predicted idle time (R163) -/

/-- The least of the terms of the panels that may begin work, limited to 65535. -/
def State.leastTerm (s : State) : Nat :=
  (allPanels.filter fun p => (s.panel p).active).foldl (fun d p => min d (s.idleTerm p)) 65535

/-- The port holds something, a lane is at work, or a panel is eligible. -/
def State.Busy (s : State) : Prop :=
  s.port.Holds ∨ (∃ l : LaneId, (s.lane l).link ≠ .idle) ∨ ∃ p : PanelId, s.eligible p = true

/-- No panel can come due: the part does not run, or no panel is READY. -/
def State.NoneDue (s : State) : Prop := s.part ≠ .running ∨ ∀ p : PanelId, (s.panel p).state ≠ .ready

section
variable {s : State}

theorem State.busy_iff :
    (s.port.busy || s.lanesBusy || allPanels.any s.eligible) = true ↔ s.Busy := by
  simp [State.Busy, Port.busy_iff, State.lanesBusy, or_assoc]

theorem State.noneDue_iff :
    (decide (s.part ≠ .running) || !(allPanels.any fun p => (s.panel p).state = .ready)) = true ↔ s.NoneDue := by
  simp [State.NoneDue]

theorem State.predictedIdle_of_busy (busy : s.Busy) : s.predictedIdle = 0 := if_pos (State.busy_iff.mpr busy)

theorem State.predictedIdle_of_noneDue (quiet : ¬ s.Busy) (h : s.NoneDue) : s.predictedIdle = 65535 :=
  (if_neg (mt State.busy_iff.mp quiet)).trans (if_pos (State.noneDue_iff.mpr h))

theorem State.predictedIdle_of_due (quiet : ¬ s.Busy) (h : ¬ s.NoneDue) : s.predictedIdle = s.leastTerm :=
  (if_neg (mt State.busy_iff.mp quiet)).trans (if_neg (mt State.noneDue_iff.mp h))

theorem State.leastTerm_le (s : State) : s.leastTerm ≤ 65535 := by
  rw [State.leastTerm, foldl_min_eq]
  exact Nat.min_le_left ..

theorem State.predictedIdle_le (s : State) : s.predictedIdle ≤ 65535 := by
  by_cases busy : s.Busy
  · simp [State.predictedIdle_of_busy busy]
  · by_cases none_due : s.NoneDue
    · exact Nat.le_of_eq (State.predictedIdle_of_noneDue busy none_due)
    · exact State.predictedIdle_of_due busy none_due ▸ s.leastTerm_le

theorem Panel.active_iff (r : Panel) : r.active = true ↔ r.state = .ready ∧ r.unbindPending = false := by
  simp [Panel.active]

theorem State.leastTerm_le_of_active {p : PanelId} (active : (s.panel p).active = true) :
    s.leastTerm ≤ s.idleTerm p :=
  foldl_min_le_of_mem _ _ _ (List.mem_filter.mpr ⟨mem_allPanels p, active⟩)

theorem State.leastTerm_attained (s : State) :
    s.leastTerm = 65535 ∨ ∃ p : PanelId, (s.panel p).active = true ∧ s.leastTerm = s.idleTerm p := by
  rcases foldl_min_attained s.idleTerm (allPanels.filter fun p => (s.panel p).active) 65535 with top | ⟨p, mem, least⟩
  · exact .inl top
  · exact .inr ⟨p, (List.mem_filter.mp mem).2, least⟩

end

/-! ### A recompute -/

/-- Settles O55: the level and the message by the laws of a recompute, the idle time by those of its terms. -/
theorem recomputesFollowTheIdleTime : Obligations.RecomputesFollowTheIdleTime := by
  refine ⟨fun s => ?_, TolRecord.message_toNat, State.predictedIdle_le, fun s => State.predictedIdle_of_busy,
    fun s port lanes panels => ?_, fun s p => ?_,
    fun count p code => dueTerm_spec count p (Nat.two_pow_pos code)⟩
  · dsimp only
    rw [State.recompute_level]
    refine ⟨State.newLevel_of_inactive, fun part loaded => ?_, fun same => State.recompute_of_same same,
      fun change off => ?_, fun change on quiet => ?_, fun change on flight => ?_⟩
    · rw [State.newLevel_of_loaded part loaded]
      refine ⟨fun rises => TolLevel.follow_of_le rises _, fun falls policy => ?_, fun falls policy => ?_⟩
      · rw [policy]
        exact (TolLevel.follow_of_lt falls).1
      · rw [policy]
        exact (TolLevel.follow_of_lt falls).2
    · exact (State.recompute_of_change change).trans (State.sendLevel_of_disabled off)
    · exact (State.recompute_of_change change).trans (State.sendLevel_of_quiet on quiet)
    · exact (State.recompute_of_change change).trans (State.sendLevel_of_flight on flight)
  · have quiet : ¬ s.Busy := by simp [State.Busy, port, lanes, panels]
    refine ⟨State.predictedIdle_of_noneDue quiet, fun running ⟨q, ready⟩ => ?_⟩
    have due : ¬ s.NoneDue := fun h => h.elim (· running) (· q ready)
    simp only [State.predictedIdle_of_due quiet due, ← Panel.active_iff]
    exact ⟨fun p => State.leastTerm_le_of_active, s.leastTerm_attained⟩
  · refine ⟨fun n => ?_, State.idleTerm_of_none, fun n => State.idleTerm_of_some⟩
    rw [← Panel.gated_iff]
    exact s.tearTerm_eq_some_iff p n

end Sys2Proof.Machine
end

section
/-! PROOFS. A write of CTL_REQUEST: ignored, dropped or accepted, and what an accepted request leaves in the control port
(R171, R172). -/
namespace Sys2Proof.Machine

/-! ### A control port with a request accepted, up to the request's one completion -/

/-- The control port after the one completion of its request. -/
def Control.completed (c : Control) (res : Result) : Control :=
  { c with resState := .done, result := res, done := true, op := .none, busErr := false }

theorem State.complete_ctl_eq (s : State) (res : Result) : (s.complete res).ctl = s.ctl.completed res := rfl

/-- Control port `c` has accepted a request: what it may hold from then on. Either the request waits, or it has its one
completion (R171). -/
inductive Control.Follows (c : Control) : Control → Prop where
  | waits (op : ReqOp) : c.Follows { c with op := op }
  | completed (res : Result) : c.Follows (c.completed res)

theorem Control.Follows.eq_or_eq {c d : Control} (follows : c.Follows d) :
    (∃ op, d = { c with op := op }) ∨ ∃ res, d = c.completed res := by
  cases follows with
  | waits op => exact .inl ⟨op, rfl⟩
  | completed res => exact .inr ⟨res, rfl⟩

section
variable {c : Control} {s : State} {op : ReqOp}

/-- A request that waits may complete. -/
theorem Control.Follows.complete (waiting : s.ctl = { c with op := op }) (res : Result) :
    c.Follows (s.complete res).ctl := by
  rw [State.complete_ctl_eq, waiting]
  exact .completed res

theorem Control.Follows.unbindFinish (waiting : s.ctl = { c with op := op }) (p : PanelId) :
    c.Follows (s.unbindFinish p).ctl := by
  unfold State.unbindFinish
  split
  · exact waiting ▸ .waits op
  · exact .complete (s := s.setPanel p _) waiting _

theorem Control.Follows.finishWrites (waiting : s.ctl = { c with op := op }) (res : Result) :
    c.Follows (s.finishWrites res).ctl := by
  unfold State.finishWrites
  split
  · exact waiting ▸ .waits op
  · exact .complete waiting res

theorem State.unbindProceed_ctl (s : State) (p : PanelId) :
    (s.unbindProceed p).ctl = { s.ctl with op := .unbindWrites p } := by simp [State.unbindProceed]

theorem State.rewindProceed_ctl (s : State) (p : PanelId) (addr : Word) :
    (s.rewindProceed p addr).ctl = { s.ctl with op := .rewindWrites p } := by simp [State.rewindProceed]

theorem State.advance_of_no_op (idle : s.ctl.op = .none) : s.advance = s := by simp [State.advance, idle]

/-- A request that waits goes on waiting, or completes. -/
theorem Control.Follows.advance_of_waits (waiting : s.ctl = { c with op := op }) : c.Follows s.advance.ctl := by
  have stays : c.Follows s.ctl := waiting ▸ .waits op
  unfold State.advance
  split
  · split
    · exact .unbindFinish (by rw [State.unbindProceed_ctl, waiting]) _
    · exact stays
  · exact .unbindFinish waiting _
  · dsimp only
    split
    · exact .finishWrites (by rw [State.rewindProceed_ctl, waiting]) _
    · exact stays
  iterate 3 exact .finishWrites waiting _
  all_goals exact stays

/-- The waiting request goes on; one that has completed does nothing more. -/
theorem Control.Follows.advance (follows : c.Follows s.ctl) : c.Follows s.advance.ctl := by
  obtain ⟨op, waiting⟩ | ⟨res, completed⟩ := follows.eq_or_eq
  · exact .advance_of_waits waiting
  · rwa [State.advance_of_no_op (by rw [completed]; rfl)]

theorem Control.Follows.recompute (follows : c.Follows s.ctl) : c.Follows s.recompute.ctl := by
  simpa using follows

theorem State.commit_ctl (s : State) : s.commit.ctl = s.advance.ctl := by simp [State.commit]

theorem Control.Follows.commit (follows : c.Follows s.ctl) : c.Follows s.commit.ctl := by
  rw [State.commit_ctl]
  exact follows.advance

end

/-! ### An abort that UNBIND or REWIND orders -/

theorem State.reportCut_ctl (s : State) (p : PanelId) {cause : AbortCause} (work : Work)
    (cut : cause = .unbind ∨ cause = .rewind) : (s.reportCut p cause work).ctl = s.ctl := by
  unfold State.reportCut
  obtain rfl | rfl := cut <;> dsimp only <;> split <;> rfl

theorem State.cutNow_ctl (s : State) (l : LaneId) {cause : AbortCause} (cut : cause = .unbind ∨ cause = .rewind) :
    (s.cutNow l cause).ctl = s.ctl := by
  unfold State.cutNow State.deassert
  dsimp only
  split
  · next t k _ same =>
    have : k = cause := by simpa using same.symm
    simp [this, State.reportCut_ctl _ _ _ cut]
  · simp

theorem State.abortPanel_ctl (s : State) (p : PanelId) {cause : AbortCause}
    (cut : cause = .unbind ∨ cause = .rewind) : (s.abortPanel p cause).ctl = s.ctl := by
  unfold State.abortPanel State.abort
  dsimp only
  split
  · split <;> simp [State.cutNow_ctl _ _ cut]
  · rfl

/-! ### What each request leaves in the control port -/

section
variable (s : State) (target : Byte) (arg : Word)

theorem Control.Follows.withPanel {k : PanelId → State} (each : ∀ p, s.ctl.Follows (k p).ctl) :
    s.ctl.Follows (s.withPanel target k).ctl := by
  unfold State.withPanel
  split
  · exact each _
  · exact .completed _

/-- A control read begun keeps the request waiting. -/
theorem State.beginRead_follows (kind : RecordKind) : s.ctl.Follows (s.beginRead kind arg).ctl :=
  .recompute (.waits _)

theorem State.beginUnbind_follows (p : PanelId) : s.ctl.Follows (s.beginUnbind p).ctl :=
  .commit (by rw [State.abortPanel_ctl _ _ (.inl rfl)]; exact .waits _)

theorem State.beginRewind_follows (p : PanelId) : s.ctl.Follows (s.beginRewind p arg).ctl :=
  .commit (by rw [State.abortPanel_ctl _ _ (.inr rfl)]; exact .waits _)

theorem State.beginPark_follows (p : PanelId) : s.ctl.Follows (s.beginPark p).ctl := by
  unfold State.beginPark
  split
  · exact .recompute (.waits _)
  · exact .recompute (.completed _)

theorem State.resumeChain_ctl (p : PanelId) : (s.resumeChain p).ctl = s.ctl := by
  unfold State.resumeChain
  dsimp only
  split
  · simp
  · split
    · simp
    · rfl

theorem State.beginResume_follows (p : PanelId) : s.ctl.Follows (s.beginResume p).ctl :=
  .commit (.complete (op := s.ctl.op) (by rw [State.resumeChain_ctl]; rfl) _)

theorem State.breakGate_follows (g : GateId) :
    s.ctl.Follows ((s.breakGate g .request fun _ => true).setOp (.breakWrites g)).commit.ctl := by
  have broken : (s.breakGate g .request fun _ => true).ctl = s.ctl := by simp
  exact .commit (by rw [State.setOp_ctl, broken]; exact .waits _)

end

/-! Each start of R172, along the checks it makes. -/

/-- A start that leaves its request waiting or completed, and the rest of the control port as it was. -/
def Start.Follows (start : Start) : Prop :=
  ∀ (s : State) (target : Byte) (arg : Word), s.ctl.Follows (start target arg s).ctl

theorem startLoadProfile_follows : Start.Follows startLoadProfile := by
  intro s target arg
  unfold startLoadProfile
  dsimp only
  split
  · split
    · exact .completed _
    · split
      · exact .completed _
      · exact s.beginRead_follows _ _
  · exact .completed _

theorem startSetLane_follows : Start.Follows startSetLane := by
  intro s target arg
  unfold startSetLane
  dsimp only
  split
  · split
    · exact .completed _
    · split
      · exact .completed _
      · exact s.beginRead_follows _ _
  · exact .completed _

theorem startSetTolerance_follows : Start.Follows startSetTolerance := by
  intro s target arg
  unfold startSetTolerance
  split
  · exact .completed _
  · exact s.beginRead_follows _ _

theorem startBind_follows : Start.Follows startBind := by
  intro s target arg
  refine .withPanel s target fun p => ?_
  split
  · exact .completed _
  · split
    · exact .completed _
    · exact s.beginRead_follows _ _

theorem startUnbind_follows : Start.Follows startUnbind := by
  intro s target arg
  refine .withPanel s target fun p => ?_
  split
  · exact s.beginUnbind_follows p
  · exact .completed _

theorem startPark_follows : Start.Follows startPark := by
  intro s target arg
  refine .withPanel s target fun p => ?_
  split
  · exact .completed _
  · exact s.beginPark_follows p
  · exact .completed _
  · exact .completed _
  · exact .completed _

theorem startResume_follows : Start.Follows startResume := by
  intro s target arg
  refine .withPanel s target fun p => ?_
  split
  · exact .completed _
  · exact .completed _
  · exact .completed _
  · exact s.beginResume_follows p
  · exact s.beginResume_follows p

theorem startRewind_follows : Start.Follows startRewind := by
  intro s target arg
  refine .withPanel s target fun p => ?_
  have checked : s.ctl.Follows (if alignedAddr 64 arg then s.beginRewind p arg else s.complete .badField).ctl := by
    split
    · exact s.beginRewind_follows arg p
    · exact .completed _
  split
  · exact .completed _
  · exact .completed _
  · exact .completed _
  · exact checked
  · exact checked

theorem startReport_follows : Start.Follows startReport := by
  intro s target arg
  refine .withPanel s target fun p => ?_
  split
  · exact .recompute (.waits _)
  · exact .completed _

theorem startRetuneTe_follows : Start.Follows startRetuneTe := by
  intro s target arg
  refine .withPanel s target fun p => ?_
  dsimp only
  split
  · exact .completed _
  · split
    · split
      · exact .recompute (.completed _)
      · exact .completed _
    · exact .completed _

theorem startBreakGate_follows : Start.Follows startBreakGate := by
  intro s target arg
  unfold startBreakGate
  dsimp only
  split
  · split
    · exact s.breakGate_follows _
    · exact .completed _
  · exact .completed _

/-- A code outside the table ends its request at once. -/
theorem startBadRequest_follows : Start.Follows startBadRequest := fun _ _ _ => .completed _

theorem startOf_follows (code : Byte) : Start.Follows (startOf code) := by
  unfold startOf
  split
  · exact startLoadProfile_follows
  · exact startSetLane_follows
  · exact startSetTolerance_follows
  · exact startBind_follows
  · exact startUnbind_follows
  · exact startPark_follows
  · exact startResume_follows
  · exact startRewind_follows
  · exact startReport_follows
  · exact startRetuneTe_follows
  · exact startBreakGate_follows
  · exact startBadRequest_follows

/-! ### CTL_REQUEST -/

/-- The command of a code and target is the write of CTL_REQUEST with them. -/
theorem exec_requestCommand (code target : Byte) (s : State) :
    exec (requestCommand code target) s = .next (s.request code target (startOf code)) := by
  unfold requestCommand
  repeat' split
  all_goals subst_vars; rfl

/-- Settles O14: the acceptance by its three rows, and the control port after it by what each request's start leaves there. -/
theorem requestsAreAcceptedDroppedOrIgnored : Obligations.RequestsAreAcceptedDroppedOrIgnored := by
  intro code target s
  simp only [exec_requestCommand]
  refine ⟨fun resetting => ?_, fun part busy => ?_, fun accepts => ⟨_, rfl, ?_⟩⟩
  · rw [State.request_resetting _ _ _ _ resetting]
  · rw [State.request_busy _ _ _ _ part busy]
    rfl
  · rw [State.request_accepts _ _ _ _ accepts]
    have follows := startOf_follows code (s.setCtl (s.ctl.accepted code target)) target s.ctl.arg
    obtain ⟨op, waits⟩ | ⟨res, completed⟩ := follows.eq_or_eq
    · rw [waits]
      exact ⟨rfl, rfl, rfl, rfl, rfl, .inl ⟨rfl, rfl, rfl⟩⟩
    · rw [completed]
      exact ⟨rfl, rfl, rfl, rfl, rfl, .inr ⟨rfl, rfl, rfl⟩⟩

end Sys2Proof.Machine
end

section
/-! PROOFS. The register window: where each register stands and what a read of it shows, bit by bit (R168, R172, R175). -/
namespace Sys2Proof.Machine

/-! ### Bits and fields of a word -/

/-- A flag's word has the flag at its place and 0 elsewhere. -/
theorem getLsbD_bitAt (b : Bool) {i : Nat} (place : i < 32) (j : Nat) : (bitAt b i).getLsbD j = (b && decide (i = j)) := by
  cases b
  · simp [bitAt]
  · simp only [bitAt, if_true, BitVec.getLsbD_ofNat, Nat.testBit_two_pow, Bool.true_and]
    grind

/-- A field no wider than a word is stored with its own bits. -/
theorem getLsbD_widened {n : Nat} (x : BitVec n) (fits : n ≤ 32) (j : Nat) :
    (x.setWidth 32).getLsbD j = x.getLsbD j := by
  rw [BitVec.getLsbD_setWidth]
  by_cases inside : j < 32
  · simp [inside]
  · simp [BitVec.getLsbD_of_ge x j (by omega)]

/-- A field is what its bits are. -/
theorem field_eq {w : Word} {k n : Nat} {x : BitVec n} (bits : ∀ i < n, w.getLsbD (k + i) = x.getLsbD i) :
    w.extractLsb' k n = x :=
  BitVec.eq_of_getLsbD_eq fun i inside => by simp [inside, bits]

/-- A field named by nothing reads 0. -/
theorem field_eq_zero {w : Word} {k n : Nat} (bits : ∀ i < n, w.getLsbD (k + i) = false) : w.extractLsb' k n = 0 :=
  field_eq fun i inside => by simp [bits i inside]

/-! ### The bits of each register -/

section
variable (s : State) (i : Nat)

theorem State.partControl_bit : (s.readReg .partControl).getLsbD i =
    (decide (s.part = .running) && decide (0 = i) ||
      decide (i < 32) && !decide (i < 8) && s.ctl.units.getLsbD (i - 8) || s.ctl.tolEnable && decide (16 = i)) := by
  simp [-BitVec.getLsbD_setWidth, getLsbD_widened, State.readReg, getLsbD_bitAt]

theorem State.partStatus_bit : (s.readReg .partStatus).getLsbD i =
    (decide (i < 32) && s.part.code.testBit i || decide (s.ctl.resState = .busy) && decide (4 = i) ||
      s.ctl.overrun && decide (5 = i) || s.pins.throttle && decide (8 = i) ||
      s.tol.inFlight.isSome && decide (9 = i)) := by
  simp [State.readReg, getLsbD_bitAt, BitVec.getLsbD_ofNat]

theorem State.ctlRequest_bit : (s.readReg .ctlRequest).getLsbD i =
    (s.ctl.code.getLsbD i || decide (i < 32) && !decide (i < 8) && s.ctl.target.getLsbD (i - 8)) := by
  simp [-BitVec.getLsbD_setWidth, getLsbD_widened, State.readReg]

theorem State.ctlResult_bit : (s.readReg .ctlResult).getLsbD i =
    (decide (i < 32) && s.ctl.resState.code.testBit i ||
      decide (i < 32) && !decide (i < 8) && s.ctl.result.code.getLsbD (i - 8)) := by
  simp [-BitVec.getLsbD_setWidth, getLsbD_widened, State.readReg, BitVec.getLsbD_ofNat]

theorem State.notify_bit : (s.readReg .notify).getLsbD i = s.ctl.notify.getLsbD i :=
  getLsbD_widened _ (by decide) i

theorem State.fault_bit : (s.readReg .fault).getLsbD i = s.ctl.fault.getLsbD i :=
  getLsbD_widened _ (by decide) i

theorem State.irqLevels_bit : (s.readReg .irqLevels).getLsbD i = s.ctl.levels.getLsbD i :=
  getLsbD_widened _ (by decide) i

theorem State.irqStatus_bit : (s.readReg .irqStatus).getLsbD i =
    (s.ctl.done && decide (0 = i) || decide (s.ctl.notify ≠ 0) && decide (1 = i) ||
      decide (s.ctl.fault ≠ 0) && decide (2 = i) || s.ctl.overrun && decide (3 = i)) := by
  simp [State.readReg, getLsbD_bitAt]

end

/-- The code of a part state or of a request state is below 4, so it has bits 0 and 1 alone. -/
theorem testBit_of_lt_four {c i : Nat} (code : c < 4) (high : 2 ≤ i) : c.testBit i = false := by
  have : 2 ^ 2 ≤ 2 ^ i := Nat.pow_le_pow_right (by decide) high
  exact Nat.testBit_lt_two_pow (by omega)

theorem PartState.code_lt (p : PartState) : p.code < 4 := by cases p <;> decide

theorem ReqState.code_lt (r : ReqState) : r.code < 4 := by cases r <;> decide

/-! ### The fields of each register

Each field is read off its register's bits: at the field's places the other terms of the register are 0. -/

section
variable (s : State)

theorem State.partControl_fields :
    ((s.readReg .partControl).getLsbD 0 = true ↔ s.part = .running) ∧
    (s.readReg .partControl).extractLsb' 1 7 = 0 ∧ (s.readReg .partControl).extractLsb' 8 6 = s.ctl.units ∧
    (s.readReg .partControl).extractLsb' 14 2 = 0 ∧ (s.readReg .partControl).getLsbD 16 = s.ctl.tolEnable ∧
    (s.readReg .partControl).extractLsb' 17 15 = 0 := by
  refine ⟨?_, field_eq_zero ?_, field_eq ?_, field_eq_zero ?_, ?_, field_eq_zero ?_⟩
  all_goals simp only [State.partControl_bit]; grind

/-- A state code of 2 bits that stands at the bottom of a register. -/
theorem lowCode_eq {w : Word} {c : Nat} (code : c < 4) (bits : ∀ i < 2, w.getLsbD i = c.testBit i) :
    (w.extractLsb' 0 2).toNat = c := by
  have field : w.extractLsb' 0 2 = BitVec.ofNat 2 c := field_eq fun i inside => by
    rw [Nat.zero_add, bits i inside, BitVec.getLsbD_ofNat]
    simp [inside]
  rw [field, BitVec.toNat_ofNat]
  exact Nat.mod_eq_of_lt code

theorem State.partStatus_fields :
    ((s.readReg .partStatus).extractLsb' 0 2).toNat = s.part.code ∧
    ((s.readReg .partStatus).getLsbD 4 = true ↔ s.ctl.resState = .busy) ∧
    (s.readReg .partStatus).getLsbD 5 = s.ctl.overrun ∧ (s.readReg .partStatus).getLsbD 8 = s.pins.throttle ∧
    (s.readReg .partStatus).getLsbD 9 = s.tol.inFlight.isSome ∧
    (∀ i, i ∉ [0, 1, 4, 5, 8, 9] → (s.readReg .partStatus).getLsbD i = false) := by
  have high {i : Nat} (h : 2 ≤ i) : s.part.code.testBit i = false := testBit_of_lt_four s.part.code_lt h
  refine ⟨lowCode_eq s.part.code_lt fun i low => ?_, ?_, ?_, ?_, ?_, fun i unnamed => ?_⟩
  all_goals rw [State.partStatus_bit]
  · grind
  · simp [high]
  · simp [high]
  · simp [high]
  · simp [high]
  · simp only [List.mem_cons, List.not_mem_nil, or_false, not_or] at unnamed
    rw [high (by omega)]
    grind

theorem State.ctlRequest_fields :
    (s.readReg .ctlRequest).extractLsb' 0 8 = s.ctl.code ∧ (s.readReg .ctlRequest).extractLsb' 8 8 = s.ctl.target ∧
    (s.readReg .ctlRequest).extractLsb' 16 16 = 0 := by
  refine ⟨field_eq ?_, field_eq ?_, field_eq_zero ?_⟩
  all_goals simp only [State.ctlRequest_bit]; grind

theorem State.ctlResult_fields :
    ((s.readReg .ctlResult).extractLsb' 0 2).toNat = s.ctl.resState.code ∧
    (s.readReg .ctlResult).extractLsb' 2 6 = 0 ∧ (s.readReg .ctlResult).extractLsb' 8 8 = s.ctl.result.code ∧
    (s.readReg .ctlResult).extractLsb' 16 16 = 0 := by
  have high {i : Nat} (h : 2 ≤ i) : s.ctl.resState.code.testBit i = false :=
    testBit_of_lt_four s.ctl.resState.code_lt h
  refine ⟨lowCode_eq s.ctl.resState.code_lt ?_, field_eq_zero ?_, field_eq ?_, field_eq_zero ?_⟩
  all_goals simp only [State.ctlResult_bit]; grind

theorem State.mask_fields :
    (s.readReg .notify).extractLsb' 0 16 = s.ctl.notify ∧ (s.readReg .notify).extractLsb' 16 16 = 0 ∧
    (s.readReg .fault).extractLsb' 0 16 = s.ctl.fault ∧ (s.readReg .fault).extractLsb' 16 16 = 0 ∧
    (s.readReg .irqLevels).extractLsb' 0 8 = s.ctl.levels ∧ (s.readReg .irqLevels).extractLsb' 8 24 = 0 := by
  refine ⟨field_eq ?_, field_eq_zero ?_, field_eq ?_, field_eq_zero ?_, field_eq ?_, field_eq_zero ?_⟩
  all_goals simp only [State.notify_bit, State.fault_bit, State.irqLevels_bit]; grind

theorem State.irqStatus_fields :
    (s.readReg .irqStatus).getLsbD 0 = s.ctl.done ∧
    ((s.readReg .irqStatus).getLsbD 1 = true ↔ s.ctl.notify ≠ 0) ∧
    ((s.readReg .irqStatus).getLsbD 2 = true ↔ s.ctl.fault ≠ 0) ∧
    (s.readReg .irqStatus).getLsbD 3 = s.ctl.overrun ∧ (s.readReg .irqStatus).extractLsb' 4 28 = 0 := by
  refine ⟨?_, ?_, ?_, ?_, field_eq_zero ?_⟩
  all_goals simp only [State.irqStatus_bit]; grind

end

/-! ### The offsets -/

/-- The register at an offset is the one whose offset it is. -/
theorem regAt_eq_some_iff (n : Nat) (reg : Reg) : regAt n = some reg ↔ regOffset reg = n := by
  constructor
  · intro found
    simpa using List.find?_some found
  · rintro rfl
    cases reg <;> rfl

/-- Settles O11: the registers by their offsets, each register's fields by its bits. -/
theorem registerReadsShowTheirFields : Obligations.RegisterReadsShowTheirFields := by
  refine ⟨fun n reg => ?_, rfl, rfl, rfl, fun s n reg v found => ⟨?_, ?_, rfl⟩, fun s => ?_⟩
  · rw [regAt_eq_some_iff]
    cases reg <;> simp [regOffset, eq_comm]
  · rw [State.readAt, found, Option.map_some]
  · rw [State.writeAt, found, Option.map_some]
  · have fields := And.intro s.partControl_fields <| And.intro s.partStatus_fields <| And.intro s.ctlRequest_fields <|
      And.intro s.ctlResult_fields <| And.intro s.mask_fields s.irqStatus_fields
    simp only [and_assoc] at fields
    exact ⟨rfl, rfl, rfl, rfl, fields⟩

end Sys2Proof.Machine
end

section
/-! PROOFS. The register writes, the clears of the causes, and the interrupt lines (R168, R174, R175). -/
namespace Sys2Proof.Machine

/-! ### Writes of whole registers -/

section
variable (v : Word) (s : State)

theorem exec_registerWrite (reg : Reg) : exec (.registerWrite reg v) s = .next (s.busWrite reg v) := rfl

/-- A flag cleared by a write of 1 to its bit is as before after a write of 0. -/
theorem State.clearOverrun_when (bit : Bool) : (if bit then s.clearOverrun else s) =
    { s with ctl := { s.ctl with overrun := s.ctl.overrun && !bit } } := by
  cases bit
  · simp
  · simp [State.clearOverrun, State.setCtl]

theorem State.clearDone_when (bit : Bool) : (if bit then s.clearDone else s) =
    { s with ctl := { s.ctl with done := s.ctl.done && !bit } } := by
  cases bit
  · simp
  · simp [State.clearDone, State.setCtl]

theorem State.busWrite_partStatus : s.busWrite .partStatus v =
    { s with ctl := { s.ctl with overrun := s.ctl.overrun && !v.getLsbD 5 } } :=
  s.clearOverrun_when _

theorem State.busWrite_irqStatus : s.busWrite .irqStatus v = { s with ctl := { s.ctl with
    done := s.ctl.done && !v.getLsbD 0
    overrun := s.ctl.overrun && !v.getLsbD 3 } } := by
  rw [State.busWrite, State.clearDone_when, State.clearOverrun_when]

/-- RESET of PART_CONTROL goes before RUN (R170). -/
theorem State.busWrite_partControl_of_reset (reset : v.getLsbD 1 = true) :
    s.busWrite .partControl v = s.softReset (v.extractLsb' 8 6) (v.getLsbD 16) := if_pos reset

theorem State.busWrite_partControl_of_no_reset (reset : v.getLsbD 1 = false) :
    s.busWrite .partControl v = s.writePartControl (v.getLsbD 0) (v.extractLsb' 8 6) (v.getLsbD 16) :=
  if_neg (ne_true_of_eq_false reset)

end

/-- Settles O12: each register's write beside the command it acts as. -/
theorem registerWritesActAsTheirCommands : Obligations.RegisterWritesActAsTheirCommands := by
  intro v s
  simp only [exec_registerWrite]
  refine ⟨rfl, rfl, rfl, rfl, rfl, rfl, rfl, rfl, ?_, ?_, fun reset => ?_, fun reset run => ?_, fun reset run => ?_, ?_⟩
  · rw [State.busWrite_partStatus]
  · rw [State.busWrite_irqStatus]
  · rw [State.busWrite_partControl_of_reset v s reset]
    rfl
  · rw [State.busWrite_partControl_of_no_reset v s reset, run]
    rfl
  · rw [State.busWrite_partControl_of_no_reset v s reset, run]
    rfl
  · rw [exec_requestCommand]
    rfl

/-! ### Interrupt lines -/

section
variable (s : State)

/-- The IRQ_STATUS bits are the four causes. -/
theorem State.irqStatus_cause (i : Fin 4) : (s.readReg .irqStatus).getLsbD i.val = s.causes[i.val]?.getD false := by
  rw [State.irqStatus_bit]
  match i with
  | ⟨0, _⟩ => simp [State.causes]
  | ⟨1, _⟩ => simp [State.causes]
  | ⟨2, _⟩ => simp [State.causes]
  | ⟨3, _⟩ => simp [State.causes]

/-- The IRQ_LEVELS fields are the causes' levels. -/
theorem State.irqLevels_level (i : Fin 4) :
    ((s.readReg .irqLevels).extractLsb' (2 * i.val) 2).toNat = s.irqLevel i.val := by
  have field : (s.readReg .irqLevels).extractLsb' (2 * i.val) 2 = s.ctl.levels.extractLsb' (2 * i.val) 2 :=
    field_eq fun j inside => by rw [State.irqLevels_bit, BitVec.getLsbD_extractLsb']; simp [inside]
  rw [field, State.irqLevel]

/-- A line is asserted by a cause that reads 1 and whose level, as it reads, passes the line's test. -/
theorem State.causeAt_iff (test : Nat → Bool) : s.causeAt test = true ↔ ∃ i : Fin 4,
    (s.readReg .irqStatus).getLsbD i.val = true ∧
      test ((s.readReg .irqLevels).extractLsb' (2 * i.val) 2).toNat = true := by
  have listed : s.causeAt test = (List.range 4).any fun i => s.causes[i]?.getD false && test (s.irqLevel i) := rfl
  simp only [State.irqStatus_cause, State.irqLevels_level]
  simp only [listed, List.any_eq_true, List.mem_range, Bool.and_eq_true, Fin.exists_iff, exists_prop]

theorem State.irqRoutine_iff : s.irqRoutine = true ↔ ∃ i : Fin 4, (s.readReg .irqStatus).getLsbD i.val = true ∧
    ((s.readReg .irqLevels).extractLsb' (2 * i.val) 2).toNat = 1 := by
  rw [State.irqRoutine, State.causeAt_iff]
  simp only [beq_iff_eq]

theorem State.irqUrgent_iff : s.irqUrgent = true ↔ ∃ i : Fin 4, (s.readReg .irqStatus).getLsbD i.val = true ∧
    2 ≤ ((s.readReg .irqLevels).extractLsb' (2 * i.val) 2).toNat := by
  rw [State.irqUrgent, State.causeAt_iff]
  simp only [decide_eq_true_eq]

/-- No cause is pending after a pin reset, so no line is asserted. -/
theorem State.causeAt_of_reset (reset : s.ctl = .reset) (test : Nat → Bool) : s.causeAt test = false := by
  simp [State.causeAt, State.causes, reset, Control.reset]

theorem State.resetPanels_ctl : s.resetPanels.ctl = s.ctl :=
  foldl_keeps (·.ctl) (fun (s : State) p => s.setPanel p (.reset (s.tePin p))) (fun _ _ => rfl) allPanels s

end

/-! ### The clears -/

/-- CTL_OVERRUN is cleared through either register. -/
theorem exec_ctlOverrunClear (via : Bool) (s : State) : exec (.ctlOverrunClear via) s = .next s.clearOverrun := by
  cases via <;> rfl

/-- Settles O13: the masks by what a set holds that loses another's members, the lines by the causes and levels read. -/
theorem causesClearAndDriveTheLines : Obligations.CausesClearAndDriveTheLines := by
  refine ⟨fun s => ⟨fun m => ⟨_, rfl, rfl, hasPanel_and_not _ _⟩, fun m => ⟨_, rfl, rfl, hasPanel_and_not _ _⟩, rfl,
    fun via => exec_ctlOverrunClear via s, fun levels => rfl⟩, State.irqRoutine_iff, State.irqUrgent_iff,
    fun s => ⟨_, rfl, ?_, ?_⟩⟩
  · exact State.causeAt_of_reset _ (State.resetPanels_ctl _) _
  · exact State.causeAt_of_reset _ (State.resetPanels_ctl _) _

end Sys2Proof.Machine
end

section
/-! PROOFS. A step and the command it runs: what every outcome of a command ensures, and that no command changes the
queue of waiting commands. -/
namespace Sys2Proof.Machine

/-! ### A step's command -/

section
variable {s : State}

theorem step_of_front {c : Instr} {rest : List Instr} (front : s.pending = c :: rest) :
    step s = exec c { s with pending := rest } := by
  simp only [step, front]

theorem step_of_empty (empty : s.pending = []) : step s = .next s.idleTick := by
  simp only [step, empty]

end

/-- Settles O1: by the case of a step that finds a command. -/
theorem stepRunsTheFrontCommand : Obligations.StepRunsTheFrontCommand := fun _ _ _ => step_of_front

/-! ### What an outcome ensures -/

/-- The next state that an outcome gives, if it gives one, has a property. -/
def Ensures (o : Host.Outcome State Fault Refusal) (Q : State → Prop) : Prop := ∀ t, o = .next t → Q t

section
variable {s : State} {Q : State → Prop}

theorem Ensures.next {t : State} (holds : Q t) : Ensures (.next t) Q := by
  rintro _ ⟨⟩
  exact holds

/-- A command whose event may not arise ensures what holds with and without the event (log 3). -/
theorem Ensures.ifDue {due : Prop} {_ : Decidable due} {t : State} (without : Q s) (event : due → Q t) :
    Ensures (.next (if due then t else s)) Q := by
  refine .next ?_
  split
  · next h => exact event h
  · exact without

/-- A response to a read ensures what its continuation gives once the read's place is freed. -/
theorem Ensures.answerRead {own : ReadOwner → Bool} {resp : ReadResp} {k : Option (List Byte) → State → State}
    (each : ∀ x bs, Q (k bs (s.readFreed x))) : Ensures (s.answerRead own resp k) Q := by
  intro t next
  obtain ⟨x, _, ⟨_, rfl⟩ | ⟨bs, _, _, rfl⟩⟩ := State.answerRead_next s t own resp k next
  · exact each x none
  · exact each x (some bs)

/-- A response to a write ensures what its continuation gives once the write's place is freed. -/
theorem Ensures.answerWrite {want : WriteKind → Bool} {k : WriteTxn → State → State}
    (each : ∀ w rest, Q (k w (s.writeFreed rest))) : Ensures (s.answerWrite want k) Q := by
  intro t next
  obtain ⟨w, rest, _, _, rfl⟩ := State.answerWrite_next s t want k next
  exact each w rest

/-- A step ensures what the idle tick and every command ensure. -/
theorem Ensures.step (idle : Q s.idleTick) (command : ∀ c rest, Ensures (exec c { s with pending := rest }) Q) :
    Ensures (step s) Q := by
  cases queue : s.pending with
  | nil =>
    rw [step_of_empty queue]
    exact .next idle
  | cons c rest =>
    rw [step_of_front queue]
    exact command c rest

end

/-! ### The queue after each event -/

section
variable (s : State)

/-! PART_CONTROL, the resets and the period. -/

@[simp] theorem State.resetPanels_pending : s.resetPanels.pending = s.pending :=
  foldl_keeps (·.pending) (fun (s : State) p => s.setPanel p (.reset (s.tePin p))) (fun _ _ => rfl) allPanels s

@[simp] theorem State.enterReset_pending : s.enterReset.pending = s.pending := by
  have aborts := foldl_keeps (·.pending) (fun (s : State) l => s.abort l .softReset) (by simp) allLanes
  simp [State.enterReset, aborts]

@[simp] theorem State.softReset_pending (units : BitVec 6) (en : Bool) :
    (s.softReset units en).pending = s.pending := by
  unfold State.softReset
  dsimp only
  split <;> simp [State.setUnits]

@[simp] theorem State.softResetValues_pending : s.softResetValues.pending = s.pending := by
  have lanes := foldl_keeps (·.pending) (fun (s : State) l => s.modLane l Lane.drained) (by simp) allLanes
  simp [State.softResetValues, lanes]

@[simp] theorem State.startRun_pending : s.startRun.pending = s.pending := by
  have marks := foldl_keeps (·.pending)
    (fun (s : State) p => s.modPanel p fun r => { r with repoll := false }) (by simp)
  simp [State.startRun, marks]

@[simp] theorem State.stopRun_pending : s.stopRun.pending = s.pending :=
  s.stopRun_keeps (·.pending) (by simp) (by simp)

@[simp] theorem State.writePartControl_pending (run : Bool) (units : BitVec 6) (en : Bool) :
    (s.writePartControl run units en).pending = s.pending := by
  unfold State.writePartControl State.writeRun
  repeat' split
  all_goals simp [State.setUnits]

@[simp] theorem State.boundary_pending : s.boundary.pending = s.pending := by
  have blocks := s.boundaryBlocks_keeps (·.pending) (by simp) (by simp)
  have panels := s.boundaryPanels_keeps (·.pending) (by simp)
  simp [State.boundary_eq, blocks, panels]

/-! NUDGE, the control requests and the register writes. -/

@[simp] theorem State.nudge_pending (m : Half) : (s.nudge m).pending = s.pending := by
  have marks := foldl_keeps (·.pending) (fun (s : State) p => s.modPanel p fun r => { r with repoll := true }) (by simp)
  unfold State.nudge
  dsimp only
  repeat' split
  all_goals simp [marks]

@[simp] theorem State.resumeChain_frame (p : PanelId) :
    (s.resumeChain p).part = s.part ∧ (s.resumeChain p).pending = s.pending := by
  unfold State.resumeChain
  dsimp only
  repeat' split
  all_goals simp

theorem State.withPanel_pending (target : Byte) {k : PanelId → State} (each : ∀ p, (k p).pending = s.pending) :
    (s.withPanel target k).pending = s.pending := by
  unfold State.withPanel
  split
  · exact each _
  · rfl

@[simp] theorem State.beginRead_pending (kind : RecordKind) (addr : Word) :
    (s.beginRead kind addr).pending = s.pending := by
  simp [State.beginRead, State.takeControlRead]

@[simp] theorem State.beginPark_pending (p : PanelId) : (s.beginPark p).pending = s.pending := by
  unfold State.beginPark
  split <;> simp

/-- A start that leaves the queue of waiting commands. -/
def Start.KeepsQueue (start : Start) : Prop :=
  ∀ (target : Byte) (arg : Word) (s : State), (start target arg s).pending = s.pending

theorem startLoadProfile_keepsQueue : Start.KeepsQueue startLoadProfile := by
  intro target arg s
  unfold startLoadProfile
  dsimp only
  repeat' split
  all_goals simp

theorem startSetLane_keepsQueue : Start.KeepsQueue startSetLane := by
  intro target arg s
  unfold startSetLane
  dsimp only
  repeat' split
  all_goals simp

theorem startSetTolerance_keepsQueue : Start.KeepsQueue startSetTolerance := by
  intro target arg s
  unfold startSetTolerance
  split <;> simp

theorem startBind_keepsQueue : Start.KeepsQueue startBind := fun target arg s =>
  s.withPanel_pending target fun p => by
    repeat' split
    all_goals simp

theorem startUnbind_keepsQueue : Start.KeepsQueue startUnbind := fun target arg s =>
  s.withPanel_pending target fun p => by
    split <;> simp [State.beginUnbind]

theorem startPark_keepsQueue : Start.KeepsQueue startPark := fun target arg s =>
  s.withPanel_pending target fun p => by
    split <;> simp

theorem startResume_keepsQueue : Start.KeepsQueue startResume := fun target arg s =>
  s.withPanel_pending target fun p => by
    split <;> simp [State.beginResume]

theorem startRewind_keepsQueue : Start.KeepsQueue startRewind := fun target arg s =>
  s.withPanel_pending target fun p => by
    repeat' split
    all_goals simp [State.beginRewind]

theorem startReport_keepsQueue : Start.KeepsQueue startReport := fun target arg s =>
  s.withPanel_pending target fun p => by
    split <;> simp

theorem startRetuneTe_keepsQueue : Start.KeepsQueue startRetuneTe := fun target arg s =>
  s.withPanel_pending target fun p => by
    dsimp only
    repeat' split
    all_goals simp [State.retune]

theorem startBreakGate_keepsQueue : Start.KeepsQueue startBreakGate := by
  intro target arg s
  unfold startBreakGate
  dsimp only
  repeat' split
  all_goals simp

theorem startBadRequest_keepsQueue : Start.KeepsQueue startBadRequest := fun _ _ _ => rfl

theorem startOf_keepsQueue (code : Byte) : Start.KeepsQueue (startOf code) := by
  unfold startOf
  split
  · exact startLoadProfile_keepsQueue
  · exact startSetLane_keepsQueue
  · exact startSetTolerance_keepsQueue
  · exact startBind_keepsQueue
  · exact startUnbind_keepsQueue
  · exact startPark_keepsQueue
  · exact startResume_keepsQueue
  · exact startRewind_keepsQueue
  · exact startReport_keepsQueue
  · exact startRetuneTe_keepsQueue
  · exact startBreakGate_keepsQueue
  · exact startBadRequest_keepsQueue

theorem State.request_pending (code target : Byte) {start : Start} (keeps : start.KeepsQueue) :
    (s.request code target start).pending = s.pending := by
  unfold State.request
  repeat' split
  · rfl
  · rfl
  · exact keeps ..

@[simp] theorem State.busWrite_pending (reg : Reg) (v : Word) : (s.busWrite reg v).pending = s.pending := by
  cases reg with
  | ident | period | ctlResult | ctlArg | notify | fault | irqLevels => rfl
  | partControl =>
    unfold State.busWrite
    dsimp only
    split <;> simp
  | partStatus => rw [State.busWrite_partStatus]
  | irqStatus => rw [State.busWrite_irqStatus]
  | ctlRequest => exact s.request_pending _ _ (startOf_keepsQueue _)
  | nudge => exact s.nudge_pending _

/-! Responses from the bus. -/

@[simp] theorem State.endAccessFault_pending (p : PanelId) (code : FaultCode) :
    (s.endAccessFault p code).pending = s.pending := by
  simp [State.endAccessFault]

@[simp] theorem State.ticketRead_pending (p : PanelId) (resp : Option (List Byte)) :
    (s.ticketRead p resp).pending = s.pending := by
  unfold State.ticketRead
  dsimp only
  repeat' split
  all_goals simp [State.malformedTicket, State.writeTaken]

@[simp] theorem State.taken_pending (p : PanelId) : (s.taken p).pending = s.pending := by
  unfold State.taken
  dsimp only
  repeat' split
  all_goals simp

@[simp] theorem State.takenAnswered_pending (kind : WriteKind) (resp : WriteResp) :
    (s.takenAnswered kind resp).pending = s.pending := by
  unfold State.takenAnswered
  repeat' split
  all_goals simp

@[simp] theorem State.repollAgain_pending (p : PanelId) : (s.repollAgain p).pending = s.pending := by
  unfold State.repollAgain
  dsimp only
  repeat' split
  all_goals simp

@[simp] theorem State.linkPolled_pending (p : PanelId) (resp : Option (List Byte)) :
    (s.linkPolled p resp).pending = s.pending := by
  unfold State.linkPolled
  dsimp only
  repeat' split
  all_goals simp

@[simp] theorem State.statusAnswered_pending (kind : WriteKind) (resp : WriteResp) :
    (s.statusAnswered kind resp).pending = s.pending := by
  unfold State.statusAnswered State.statusBits
  dsimp only
  repeat' split
  all_goals simp

@[simp] theorem State.replyAnswered_pending (kind : WriteKind) (resp : WriteResp) :
    (s.replyAnswered kind resp).pending = s.pending := by
  unfold State.replyAnswered
  repeat' split
  all_goals simp

@[simp] theorem State.reportAnswered_pending (resp : WriteResp) : (s.reportAnswered resp).pending = s.pending := by
  unfold State.reportAnswered
  split <;> simp

@[simp] theorem State.pixelDiscarded_pending (l : LaneId) (b : BufId) :
    (s.pixelDiscarded l b).pending = s.pending := by
  obtain same | ⟨_, _, freed⟩ := s.pixelDiscarded_eq l b
  · rw [same]
  · simp [freed]

@[simp] theorem State.rowAnswered_pending (l : LaneId) (b : BufId) (row want : Nat) (got : List (Nat × List Byte))
    (err : Bool) : (s.rowAnswered l b row want got err).pending = s.pending := by
  unfold State.rowAnswered State.rowWhole
  repeat' split
  all_goals simp

@[simp] theorem State.pixelAnswered_pending (l : LaneId) (b : BufId) (off : Nat) (resp : Option (List Byte)) :
    (s.pixelAnswered l b off resp).pending = s.pending := by
  unfold State.pixelAnswered
  dsimp only
  repeat' split
  all_goals simp

theorem State.unlessResetting_pending {f : State → State} (keeps : (f s).pending = s.pending) :
    (s.unlessResetting f).pending = s.pending := by
  unfold State.unlessResetting
  split
  · rfl
  · simpa using keeps

theorem finishProfile_pending (kind : RecordKind) (bs : Option (List Byte)) :
    (finishProfile kind bs s).pending = s.pending := by
  unfold finishProfile
  repeat' split
  all_goals simp

theorem finishLane_pending (kind : RecordKind) (bs : Option (List Byte)) :
    (finishLane kind bs s).pending = s.pending := by
  unfold finishLane
  repeat' split
  all_goals simp

theorem finishTolerance_pending (kind : RecordKind) (bs : Option (List Byte)) :
    (finishTolerance kind bs s).pending = s.pending := by
  unfold finishTolerance
  repeat' split
  all_goals simp [State.loadTolerance]

theorem finishDescriptor_pending (kind : RecordKind) (bs : Option (List Byte)) :
    (finishDescriptor kind bs s).pending = s.pending := by
  unfold finishDescriptor
  repeat' split
  all_goals simp [State.bindOk]

theorem State.controlAnswered_pending (off : Nat) (resp : Option (List Byte))
    {finish : RecordKind → Option (List Byte) → State → State}
    (keeps : ∀ (s : State) kind bs, (finish kind bs s).pending = s.pending) :
    (s.controlAnswered off resp finish).pending = s.pending := by
  unfold State.controlAnswered
  dsimp only
  repeat' split
  all_goals simp [keeps]

/-! Grants. -/

@[simp] theorem State.grant_frame (l : LaneId) (p : PanelId) :
    (s.grant l p).part = s.part ∧ (s.grant l p).ctl = s.ctl ∧ (s.grant l p).pending = s.pending := by
  unfold State.grant State.chargeCommand
  dsimp only
  repeat' split
  all_goals simp
end

/-! ### The queue after each command -/

section
variable {s : State}

/-- A response to a control read keeps the queue that its last part keeps. -/
theorem answerControl_keepsQueue {isKind : RecordKind → Bool} {off : Nat} {resp : ReadResp}
    {finish : RecordKind → Option (List Byte) → State → State}
    (keeps : ∀ (s : State) kind bs, (finish kind bs s).pending = s.pending) :
    Ensures (s.answerControl isKind off resp finish) (·.pending = s.pending) :=
  .answerRead fun x bs => by
    split
    · rfl
    · exact State.controlAnswered_pending _ off bs keeps

end

theorem exec_keepsQueue (c : Instr) (s : State) : Ensures (exec c s) (·.pending = s.pending) := by
  cases c with
  | pinReset => exact .next (State.resetPanels_pending _)
  | softReset => exact .next (s.softReset_pending _ _)
  | runStart | runStop | periodUnitsWrite | tolEnableWrite => exact .next (s.writePartControl_pending _ _ _)
  | nudge m => exact .next (s.nudge_pending m)
  | notifyClear | faultClear | ctlDoneClear | irqLevelsWrite => exact .next rfl
  | ctlOverrunClear =>
    rw [exec_ctlOverrunClear]
    exact .next rfl
  | registerWrite reg v => exact .next (s.busWrite_pending reg v)
  | loadProfile => exact .next (s.request_pending _ _ startLoadProfile_keepsQueue)
  | setLane => exact .next (s.request_pending _ _ startSetLane_keepsQueue)
  | setTolerance => exact .next (s.request_pending _ _ startSetTolerance_keepsQueue)
  | bind => exact .next (s.request_pending _ _ startBind_keepsQueue)
  | unbind => exact .next (s.request_pending _ _ startUnbind_keepsQueue)
  | park => exact .next (s.request_pending _ _ startPark_keepsQueue)
  | resume => exact .next (s.request_pending _ _ startResume_keepsQueue)
  | rewind => exact .next (s.request_pending _ _ startRewind_keepsQueue)
  | report => exact .next (s.request_pending _ _ startReport_keepsQueue)
  | retuneTe => exact .next (s.request_pending _ _ startRetuneTe_keepsQueue)
  | breakGate => exact .next (s.request_pending _ _ startBreakGate_keepsQueue)
  | badRequest code => exact .next (s.request_pending _ _ (startOf_keepsQueue code))
  | teFilterSample levels => exact .next (s.sampleAll_keeps (·.pending) (by simp) (by simp) levels)
  | qualifiedEdge | periodBoundary | forcedPark | settleEnd | expiry | holdExpiry | teLost | gateTimeout | ticketFetch
  | drainComplete => exact .ifDue rfl (by simp)
  | throttleHigh | throttleLow | tolAccept | memoryRequestSent | laneGrant | byteTimeEnd | gapAfterAbortEnd =>
    exact .next (by split <;> simp)
  | tolAcceptLow => exact .next rfl
  | transactionCompletion =>
    refine .next ?_
    dsimp only
    repeat' split
    all_goals simp
  | ticketReadAnswered =>
    rw [exec_ticketReadAnswered]
    exact .answerRead fun x bs => State.unlessResetting_pending _ (by simp)
  | linkPollAnswered =>
    rw [exec_linkPollAnswered]
    exact .answerRead fun x bs => State.unlessResetting_pending _ (by simp)
  | pixelFetchAnswered =>
    rw [exec_pixelFetchAnswered]
    exact .answerRead fun x bs => by split <;> simp
  | takenWriteAnswered =>
    rw [exec_takenWriteAnswered]
    exact .answerWrite fun w rest => State.unlessResetting_pending _ (by simp)
  | statusWriteAnswered =>
    rw [exec_statusWriteAnswered]
    exact .answerWrite fun w rest => State.unlessResetting_pending _ (by simp)
  | replyWriteAnswered =>
    rw [exec_replyWriteAnswered]
    exact .answerWrite fun w rest => State.unlessResetting_pending _ (by simp)
  | reportWriteAnswered =>
    rw [exec_reportWriteAnswered]
    exact .answerWrite fun w rest => by split <;> simp
  | profileReadAnswered => exact answerControl_keepsQueue finishProfile_pending
  | laneRecordReadAnswered => exact answerControl_keepsQueue finishLane_pending
  | toleranceReadAnswered => exact answerControl_keepsQueue finishTolerance_pending
  | descriptorReadAnswered => exact answerControl_keepsQueue finishDescriptor_pending

/-- Settles O3: command by command, each by what its event leaves of the queue. -/
theorem commandsLeaveTheQueue : Obligations.CommandsLeaveTheQueue := fun c s => exec_keepsQueue c s

end Sys2Proof.Machine
end

section
/-! PROOFS. The states of the panels: what each shared operation that halts, parks, binds and resets no panel leaves of
them (R23, R26, R40). -/
namespace Sys2Proof.Machine

/-! ### One panel record -/

section
variable (s : State)

theorem State.setPanel_states {p : PanelId} {r : Panel} (same : r.state = (s.panel p).state) (q : PanelId) :
    ((s.setPanel p r).panel q).state = (s.panel q).state := by
  rw [State.setPanel_panel]
  split
  · next h => rw [same, h]
  · rfl

theorem State.modPanel_states (p : PanelId) {f : Panel → Panel} (same : ∀ r, (f r).state = r.state) (q : PanelId) :
    ((s.modPanel p f).panel q).state = (s.panel q).state := s.setPanel_states (same _) q

/-- A fold of steps that leave every panel state leaves every panel state. -/
theorem foldl_states {α : Type} {f : State → α → State}
    (each : ∀ s a (q : PanelId), ((f s a).panel q).state = (s.panel q).state) (xs : List α) (q : PanelId) :
    ((xs.foldl f s).panel q).state = (s.panel q).state :=
  foldl_keeps (fun s => (s.panel q).state) f (fun s a => each s a q) xs s

/-! ### Gates and heads -/

@[simp] theorem State.breakGates_states (sel : Gate → Bool) (reason : Reason) (own : PanelId → Bool) (q : PanelId) :
    ((s.breakGates sel reason own).panel q).state = (s.panel q).state := by
  refine foldl_states s (fun s g q => ?_) allGates q
  split <;> simp

@[simp] theorem State.withdraw_states (p q : PanelId) : ((s.withdraw p).panel q).state = (s.panel q).state := by
  unfold State.withdraw
  dsimp only
  split
  · rfl
  · simp [State.modPanel_states]

@[simp] theorem State.alignClose_states (mask : Half) (q : PanelId) :
    ((s.alignClose mask).panel q).state = (s.panel q).state := by
  rw [State.alignClose_panel]
  split <;> rfl

@[simp] theorem State.release_states (g : GateId) (q : PanelId) :
    ((s.release g).panel q).state = (s.panel q).state := by
  have members := fun s => foldl_states s (f := State.releaseMember)
    (fun s a q => by simp [State.releaseMember, State.modPanel_states])
  rw [State.release_eq, State.setGate_panel, members]
  unfold State.releaseCloses
  split <;> simp

@[simp] theorem State.arrive_states (p : PanelId) (g : GateId) (mask : Half) (timeout : Nat) (align : Bool)
    (q : PanelId) : ((s.arrive p g mask timeout align).panel q).state = (s.panel q).state := by
  unfold State.arrive
  dsimp only
  repeat' split
  all_goals simp [State.modPanel_states]

@[simp] theorem State.doHead_states (p : PanelId) (a : HeadAct) (q : PanelId) :
    ((s.doHead p a).panel q).state = (s.panel q).state := by
  cases a <;> simp [State.doHead]

@[simp] theorem actHeads_states (fuel : Nat) (q : PanelId) : ((actHeads fuel s).panel q).state = (s.panel q).state := by
  induction fuel generalizing s with
  | zero => rfl
  | succ n ih =>
    unfold actHeads
    repeat' split
    · rfl
    · rfl
    · simp [ih]

/-! ### Chains -/

@[simp] theorem State.issuePoll_states (p q : PanelId) : ((s.issuePoll p).panel q).state = (s.panel q).state := by
  unfold State.issuePoll
  split <;> simp [State.modPanel_states]

@[simp] theorem State.issuePolls_states (ps : List PanelId) (q : PanelId) :
    ((s.issuePolls ps).panel q).state = (s.panel q).state :=
  s.issuePolls_panel_keeps (·.state) (fun _ _ => rfl) ps q

@[simp] theorem State.pollOrMark_states (p q : PanelId) : ((s.pollOrMark p).panel q).state = (s.panel q).state := by
  unfold State.pollOrMark
  split <;> simp [State.modPanel_states]

@[simp] theorem State.accessEnded_states (p q : PanelId) : ((s.accessEnded p).panel q).state = (s.panel q).state := by
  unfold State.accessEnded
  dsimp only
  split <;> simp [State.setPanel_states]

@[simp] theorem State.resumeChain_states (p q : PanelId) : ((s.resumeChain p).panel q).state = (s.panel q).state := by
  unfold State.resumeChain
  dsimp only
  repeat' split
  all_goals simp [State.setPanel_states]

@[simp] theorem State.take_states (p : PanelId) (t : Ticket) (q : PanelId) :
    ((s.take p t).panel q).state = (s.panel q).state := by
  unfold State.take
  dsimp only
  split <;> simp [State.setPanel_states]

/-! ### Grants and completions -/

@[simp] theorem Panel.startStrip_state (r : Panel) : r.startStrip.state = r.state := by
  unfold Panel.startStrip
  split <;> rfl

@[simp] theorem Panel.startCommand_state (r : Panel) : r.startCommand.state = r.state := by simp [Panel.startCommand]

@[simp] theorem Panel.debitStrip_state (r : Panel) (pl : Plan) : (r.debitStrip pl).state = r.state := by
  simp [Panel.debitStrip]

@[simp] theorem Panel.stripDone_state (r : Panel) (n : Nat) : (r.stripDone n).state = r.state := by
  simp [Panel.stripDone]

@[simp] theorem State.chargeCommand_states (p : PanelId) (cost : Nat) (q : PanelId) :
    ((s.chargeCommand p cost).panel q).state = (s.panel q).state := by
  unfold State.chargeCommand
  dsimp only
  split <;> simp [State.modPanel_states]

@[simp] theorem State.grant_states (l : LaneId) (p q : PanelId) :
    ((s.grant l p).panel q).state = (s.panel q).state := by
  unfold State.grant
  dsimp only
  repeat' split
  all_goals simp [State.modPanel_states]

@[simp] theorem State.completeStrip_states (p : PanelId) (n : Nat) (q : PanelId) :
    ((s.completeStrip p n).panel q).state = (s.panel q).state := by
  unfold State.completeStrip
  dsimp only
  repeat' split
  all_goals simp [State.setPanel_states]

@[simp] theorem State.endSettle_states (p q : PanelId) : ((s.endSettle p).panel q).state = (s.panel q).state := by
  unfold State.endSettle
  dsimp only
  repeat' split
  all_goals simp [State.setPanel_states]

@[simp] theorem State.applyWork_states (p : PanelId) (work : Work) (reply : List Byte) (q : PanelId) :
    ((s.applyWork p work reply).panel q).state = (s.panel q).state := by
  cases work with
  | strip n => exact s.completeStrip_states p n q
  | scroll o => simp [State.applyWork, State.modPanel_states]
  | send => simp [State.applyWork]
  | read =>
    unfold State.applyWork State.completeRead
    dsimp only
    split <;> simp
  | sleep =>
    unfold State.applyWork State.completeSleep
    dsimp only
    split <;> simp [State.modPanel_states]
  | wake =>
    unfold State.applyWork State.completeWake
    dsimp only
    split <;> simp [State.modPanel_states]

/-! ### Edges of TE -/

@[simp] theorem State.acceptEdge_states (p : PanelId) (e : Edge) (q : PanelId) :
    ((s.acceptEdge p e).panel q).state = (s.panel q).state := by
  rw [State.acceptEdge_panel]
  split
  · next h => rw [h]
  · rfl

end

end Sys2Proof.Machine
end

section
/-! PROOFS. A panel is in PARKING only while its PARK request is in progress: one rule for every shared operation, then
for every event, then for the steps (R39 to R41, 02 section 2.2). -/
namespace Sys2Proof.Machine

/-! ### The invariant and a PARK that is over -/

section
variable {s t : State}

/-- At most one panel's PARK is in progress. -/
theorem ReqOp.parks_unique {op : ReqOp} {p q : PanelId} (one : op.parks p) (other : op.parks q) : q = p := by
  obtain rfl | rfl := one <;> simpa [ReqOp.parks, eq_comm] using other

/-- The invariant passes to a state with the same request in progress in which no further panel is in PARKING. -/
theorem State.ParkingOk.of_left (ok : s.ParkingOk) (part : t.part ≠ .resetting → s.part ≠ .resetting)
    (op : t.ctl.op = s.ctl.op) (resState : t.ctl.resState = s.ctl.resState)
    (parking : ∀ q, (t.panel q).state = .parking → (s.panel q).state = .parking) : t.ParkingOk := by
  obtain ⟨request, parks⟩ := ok
  refine ⟨fun waits => ?_, fun run q h => ?_⟩
  · rw [resState]
    exact request (op ▸ waits)
  · rw [op]
    exact parks (part run) q (parking q h)

/-- What leaves the part state, the control port and the panel states keeps the invariant. -/
theorem State.ParkingOk.keep (ok : s.ParkingOk) (part : t.part = s.part := by simp) (ctl : t.ctl = s.ctl := by simp)
    (states : ∀ q, (t.panel q).state = (s.panel q).state := by simp) : t.ParkingOk :=
  ok.of_left (by rw [part]; exact id) (by rw [ctl]) (by rw [ctl]) fun q => by rw [states]; exact id

/-- So does a write of a panel record that puts the panel in no PARKING. -/
theorem State.ParkingOk.setPanel (ok : s.ParkingOk) {p : PanelId} {r : Panel}
    (leaves : r.state = .parking → (s.panel p).state = .parking) : (s.setPanel p r).ParkingOk :=
  ok.of_left id rfl rfl fun q => by
    rw [State.setPanel_panel]
    split
    · next same => exact same ▸ leaves
    · exact id

theorem State.ParkingOk.modPanel (ok : s.ParkingOk) {p : PanelId} {f : Panel → Panel}
    (leaves : ∀ r : Panel, (f r).state = .parking → r.state = .parking) : (s.modPanel p f).ParkingOk :=
  ok.setPanel (leaves _)

theorem State.ParkingOk.withGates (ok : s.ParkingOk) (gates : Vector Gate 8) :
    State.ParkingOk { s with gates := gates } :=
  ok.keep rfl rfl fun _ => rfl

/-- So does a write of the control port that leaves the request in progress and its state. -/
theorem State.ParkingOk.setCtl (ok : s.ParkingOk) {c : Control} (op : c.op = s.ctl.op)
    (resState : c.resState = s.ctl.resState) : (s.setCtl c).ParkingOk := ok.of_left id op resState fun _ => id

theorem State.ParkingOk.setFaultBit (ok : s.ParkingOk) (p : PanelId) : (s.setFaultBit p).ParkingOk :=
  ok.setCtl rfl rfl

theorem State.ParkingOk.issuePoll (ok : s.ParkingOk) (p : PanelId) : (s.issuePoll p).ParkingOk := ok.keep

theorem State.ParkingOk.takeChainRead (ok : s.ParkingOk) (x : ReadTxn) : (s.takeChainRead x).ParkingOk := ok.keep

theorem State.ParkingOk.setTol (ok : s.ParkingOk) (r : Tolerance) : (s.setTol r).ParkingOk := ok.keep

theorem State.ParkingOk.sendLevel (ok : s.ParkingOk) : s.sendLevel.ParkingOk := ok.keep

theorem State.ParkingOk.issuePolls (ok : s.ParkingOk) (ps : List PanelId) : (s.issuePolls ps).ParkingOk := ok.keep

theorem State.ParkingOk.setLane (ok : s.ParkingOk) (l : LaneId) (r : Lane) : (s.setLane l r).ParkingOk := ok.keep

/-- A request that waits keeps the control port BUSY. -/
theorem State.ParkingOk.busy (ok : s.ParkingOk) {op : ReqOp} (waits : s.ctl.op = op) (request : op ≠ .none) :
    s.ctl.resState = .busy := ok.1 (waits ▸ request)

/-- The invariant, with no panel left in PARKING by the PARK in progress, if there is one: the request may then go on to
anything. -/
structure State.ParkOver (s : State) : Prop where
  ok : s.ParkingOk
  gone : ∀ p, s.ctl.op.parks p → (s.panel p).state ≠ .parking

/-- While another request than a PARK is in progress, or none, no PARK is left to end. -/
theorem State.ParkingOk.over_of_op (ok : s.ParkingOk) {op : ReqOp} (waits : s.ctl.op = op)
    (other : ∀ p, ¬ op.parks p := by simp [ReqOp.parks]) : s.ParkOver :=
  ⟨ok, fun p parks => absurd (waits ▸ parks) (other p)⟩

/-- The PARK of a panel that has left PARKING is over. -/
theorem State.ParkingOk.over_of_panel (ok : s.ParkingOk) {p : PanelId} (parks : s.ctl.op.parks p)
    (left : (s.panel p).state ≠ .parking) : s.ParkOver :=
  ⟨ok, fun q h => by rw [ReqOp.parks_unique parks h]; exact left⟩

/-- Outside RESETTING no panel at all is then in PARKING. -/
theorem State.ParkOver.no_parking (idle : s.ParkOver) (run : s.part ≠ .resetting) (p : PanelId) :
    (s.panel p).state ≠ .parking := fun h => idle.gone p (idle.ok.2 run p h) h

theorem State.ParkOver.of_left (idle : s.ParkOver) (part : t.part = s.part) (ctl : t.ctl = s.ctl)
    (parking : ∀ q, (t.panel q).state = .parking → (s.panel q).state = .parking) : t.ParkOver :=
  ⟨idle.ok.of_left (by rw [part]; exact id) (by rw [ctl]) (by rw [ctl]) parking,
    fun q parks h => idle.gone q (ctl ▸ parks) (parking q h)⟩

theorem State.ParkOver.keep (idle : s.ParkOver) (part : t.part = s.part := by simp) (ctl : t.ctl = s.ctl := by simp)
    (states : ∀ q, (t.panel q).state = (s.panel q).state := by simp) : t.ParkOver :=
  idle.of_left part ctl fun q => by rw [states]; exact id

theorem State.ParkOver.setPanel (idle : s.ParkOver) {p : PanelId} {r : Panel}
    (leaves : r.state = .parking → (s.panel p).state = .parking) : (s.setPanel p r).ParkOver :=
  idle.of_left rfl rfl fun q => by
    rw [State.setPanel_panel]
    split
    · next same => exact same ▸ leaves
    · exact id

theorem State.ParkOver.setLane (idle : s.ParkOver) (l : LaneId) (r : Lane) : (s.setLane l r).ParkOver := idle.keep

/-- A request may then complete. -/
theorem State.ParkOver.complete (idle : s.ParkOver) (res : Result) : (s.complete res).ParkingOk :=
  ⟨fun waits => absurd rfl waits, fun run q h => absurd h (idle.no_parking run q)⟩

/-- Or it may wait for what comes next. -/
theorem State.ParkOver.setOp (idle : s.ParkOver) (busy : s.ctl.resState = .busy) (op : ReqOp) :
    (s.setOp op).ParkingOk :=
  ⟨fun _ => busy, fun run q h => absurd h (idle.no_parking run q)⟩

theorem State.ParkingOk.ite {due : Prop} {_ : Decidable due} (event : t.ParkingOk) (without : s.ParkingOk) :
    (if due then t else s).ParkingOk := by
  split
  · exact event
  · exact without

/-- A fold of steps that keep the invariant keeps it. -/
theorem State.ParkingOk.foldl {α : Type} {f : State → α → State} (each : ∀ s a, s.ParkingOk → (f s a).ParkingOk)
    (xs : List α) (ok : s.ParkingOk) : (xs.foldl f s).ParkingOk := by
  induction xs generalizing s with
  | nil => exact ok
  | cons a rest ih => exact ih (each s a ok)

theorem State.ParkingOk.modPanels (ok : s.ParkingOk) {f : Panel → Panel}
    (leaves : ∀ r : Panel, (f r).state = .parking → r.state = .parking) (ps : List PanelId) :
    (ps.foldl (fun s p => s.modPanel p f) s).ParkingOk :=
  ok.foldl (fun _ _ ok => ok.modPanel leaves) ps

/-! ### Halts -/

theorem State.endParkBadState_eq (s : State) (p : PanelId) :
    s.endParkBadState p = if s.ctl.op.parks p then s.complete .badState else s := by
  unfold State.endParkBadState
  split <;> simp_all [ReqOp.parks]

/-- The PARK of a panel that has left PARKING may end. -/
theorem State.ParkingOk.endParkBadState (ok : s.ParkingOk) {p : PanelId} (left : (s.panel p).state ≠ .parking) :
    (s.endParkBadState p).ParkingOk := by
  rw [State.endParkBadState_eq]
  split
  · next parks => exact (ok.over_of_panel parks left).complete _
  · exact ok

theorem State.ParkingOk.haltFault (ok : s.ParkingOk) (p : PanelId) (code : FaultCode) :
    (s.haltFault p code).ParkingOk := by
  have flagged := ok.setFaultBit p
  unfold State.haltFault
  dsimp only
  split
  · exact flagged
  · exact flagged.setPanel id
  · exact flagged.setPanel id
  · have halted := flagged.setPanel (p := p) (r := { s.panel p with fault := code, state := .halted }) nofun
    exact halted.keep
  · have halted := flagged.setPanel (p := p)
      (r := { s.panel p with fault := code, state := .halted, parkWait := 0 }) nofun
    exact (halted.endParkBadState (p := p) (by simp)).keep

/-! ### Cuts -/

theorem Panel.endParking_not_parking (r : Panel) : r.endParking.state ≠ .parking := by
  unfold Panel.endParking
  split
  · nofun
  · assumption

theorem State.ParkingOk.parkWriteWait (ok : s.ParkingOk) {p : PanelId} (left : (s.panel p).state ≠ .parking) :
    (s.parkWriteWait p).ParkingOk := by
  unfold State.parkWriteWait
  split
  · next q waits =>
    split
    · next same => exact (ok.over_of_panel (.inr (same ▸ waits)) left).setOp (ok.busy waits nofun) _
    · exact ok
  · next q waits =>
    split
    · next same => exact (ok.over_of_panel (.inl (same ▸ waits)) left).complete _
    · exact ok
  · exact ok

theorem State.ParkingOk.endParking (ok : s.ParkingOk) (p : PanelId) : (s.modPanel p Panel.endParking).ParkingOk :=
  ok.modPanel fun r h => absurd h r.endParking_not_parking

/-- A cut that ends the head ends the panel's PARKING, and its PARK goes on. -/
theorem State.ParkingOk.cutHead (ok : s.ParkingOk) (p : PanelId) (f : Final) (own : Bool) :
    (((s.endHead p f own).modPanel p Panel.endParking).parkWriteWait p).ParkingOk :=
  have ended : (s.endHead p f own).ParkingOk := ok.keep
  (ended.endParking p).parkWriteWait (by simp [Panel.endParking_not_parking])

theorem State.ParkingOk.reportCut (ok : s.ParkingOk) (p : PanelId) (cause : AbortCause) (work : Work) :
    (s.reportCut p cause work).ParkingOk := by
  have cleared : (s.modPanel p fun r => { r with cont := false }).ParkingOk := ok.modPanel fun _ => id
  unfold State.reportCut
  dsimp only
  split
  · exact cleared
  · split
    · exact cleared
    · exact cleared.modPanel fun _ => id
    · exact cleared.modPanel fun _ => id
    · have counted := cleared.modPanel (p := p) (f := fun r => { r with head := { r.head with cut := work.rows } })
        fun _ => id
      exact counted.cutHead p _ _
    · exact cleared.cutHead p _ _

theorem State.ParkingOk.deassert (ok : s.ParkingOk) (l : LaneId) : (s.deassert l).ParkingOk := by
  unfold State.deassert
  dsimp only
  split
  · exact (ok.setLane l _).reportCut ..
  · exact ok.setLane l _

theorem State.ParkingOk.cutNow (ok : s.ParkingOk) (l : LaneId) (cause : AbortCause) : (s.cutNow l cause).ParkingOk :=
  have dropped : ((s.setLane l { s.lane l with cause := some cause }).dropPixels l).ParkingOk := ok.keep
  dropped.deassert l

theorem State.ParkingOk.abort (ok : s.ParkingOk) (l : LaneId) (cause : AbortCause) : (s.abort l cause).ParkingOk := by
  unfold State.abort
  dsimp only
  split
  · exact ok.keep
  · exact ok.cutNow l cause
  all_goals exact ok

theorem State.ParkingOk.abortPanel (ok : s.ParkingOk) (p : PanelId) (cause : AbortCause) :
    (s.abortPanel p cause).ParkingOk := .ite (ok.abort _ cause) ok

theorem State.ParkingOk.forcePark (ok : s.ParkingOk) (w : WaitEnd) : (s.forcePark w).ParkingOk :=
  .ite (ok.cutNow _ _) (ok.abortPanel _ _)

theorem State.ParkingOk.pixelError (ok : s.ParkingOk) (l : LaneId) : (s.pixelError l).ParkingOk := by
  unfold State.pixelError
  dsimp only
  split
  · exact ok
  · next tx _ =>
    split
    · exact ok
    · exact ok
    · have dropped := ok.setLane l { s.lane l with tx := some { tx with feed := .none } }
      have halted := dropped.haltFault tx.panel .pixelError
      split
      · exact halted.abort l .pixelError
      · exact halted.setLane l _
      all_goals exact halted

/-! ### The closing of an event -/

theorem State.ParkOver.unbindFinish (idle : s.ParkOver) (p : PanelId) : (s.unbindFinish p).ParkingOk :=
  .ite idle.ok ((idle.setPanel (by simp [Panel.reset])).complete _)

theorem State.ParkOver.finishWrites (idle : s.ParkOver) (res : Result) : (s.finishWrites res).ParkingOk :=
  .ite idle.ok (idle.complete res)

theorem State.ParkOver.unbindProceed (idle : s.ParkOver) (busy : s.ctl.resState = .busy) (p : PanelId) :
    (s.unbindProceed p).ParkingOk := by
  have unbound : (s.modPanel p fun r => { r with state := .unbound }).ParkOver := idle.setPanel nofun
  exact unbound.keep.setOp (by simpa using busy) _

theorem State.ParkOver.rewindProceed (idle : s.ParkOver) (busy : s.ctl.resState = .busy) (p : PanelId) (addr : Word) :
    (s.rewindProceed p addr).ParkingOk := by
  have ended : ((s.withdraw p).endTickets p (fun i _ => some (rewindFinal ((s.withdraw p).panel p) i)) true).ParkOver :=
    idle.keep
  exact (ended.setPanel (by simp)).setOp (by simpa using busy) _

theorem State.ParkingOk.advance (ok : s.ParkingOk) : s.advance.ParkingOk := by
  unfold State.advance
  split
  · next p waits =>
    split
    · have proceeded := (ok.over_of_op waits).unbindProceed (ok.busy waits nofun) p
      exact (proceeded.over_of_op (by rw [State.unbindProceed_ctl])).unbindFinish p
    · exact ok
  · next p waits => exact (ok.over_of_op waits).unbindFinish p
  · next p addr waits =>
    dsimp only
    split
    · have proceeded := (ok.over_of_op waits).rewindProceed (ok.busy waits nofun) p addr
      exact (proceeded.over_of_op (by rw [State.rewindProceed_ctl])).finishWrites _
    · exact ok
  · next waits => exact (ok.over_of_op waits).finishWrites _
  · next waits => exact (ok.over_of_op waits).finishWrites _
  · next waits => exact (ok.over_of_op waits).finishWrites _
  all_goals exact ok

theorem State.ParkingOk.recompute (ok : s.ParkingOk) : s.recompute.ParkingOk := ok.keep

theorem State.ParkingOk.commit (ok : s.ParkingOk) : s.commit.ParkingOk :=
  have acted : (actHeads 128 s.advance).ParkingOk := ok.advance.keep
  acted.recompute

/-! ### The control requests -/

theorem State.ParkingOk.over_of_not_busy (ok : s.ParkingOk) (free : s.ctl.resState ≠ .busy) : s.ParkOver :=
  ok.over_of_op (Decidable.of_not_not (mt ok.1 free))

/-- A start that keeps the invariant, from a request accepted while no PARK is in progress. -/
def Start.KeepsParking (start : Start) : Prop :=
  ∀ (target : Byte) (arg : Word) (s : State), s.ParkOver → s.ctl.resState = .busy → (start target arg s).ParkingOk

theorem State.ParkOver.withPanel (idle : s.ParkOver) (target : Byte) {k : PanelId → State}
    (each : ∀ p, (k p).ParkingOk) : (s.withPanel target k).ParkingOk := by
  unfold State.withPanel
  split
  · exact each _
  · exact idle.complete _

theorem State.ParkOver.beginRead (idle : s.ParkOver) (busy : s.ctl.resState = .busy) (kind : RecordKind) (addr : Word) :
    (s.beginRead kind addr).ParkingOk :=
  have taken : (s.takeControlRead kind addr).ParkOver := idle.keep rfl rfl fun _ => rfl
  (taken.setOp busy _).recompute

theorem State.ParkOver.beginUnbind (idle : s.ParkOver) (busy : s.ctl.resState = .busy) (p : PanelId) :
    (s.beginUnbind p).ParkingOk :=
  have marked : (s.modPanel p fun r => { r with unbindPending := true }).ParkOver := idle.setPanel id
  ((marked.setOp busy _).abortPanel p _).commit

theorem State.ParkOver.beginRewind (idle : s.ParkOver) (busy : s.ctl.resState = .busy) (p : PanelId) (addr : Word) :
    (s.beginRewind p addr).ParkingOk := ((idle.setOp busy _).abortPanel p _).commit

theorem State.ParkOver.resumeChain (idle : s.ParkOver) (p : PanelId) : (s.resumeChain p).ParkOver :=
  idle.keep (by simp) (s.resumeChain_ctl p)

theorem State.ParkOver.beginResume (idle : s.ParkOver) (p : PanelId) : (s.beginResume p).ParkingOk :=
  have ready : (s.modPanel p fun r => { r with fault := .none, state := .ready }).ParkOver := idle.setPanel nofun
  ((ready.resumeChain p).complete _).commit

/-- PARK alone puts a panel in PARKING, and is then in progress for it. -/
theorem State.ParkOver.beginPark (idle : s.ParkOver) (busy : s.ctl.resState = .busy) (p : PanelId) :
    (s.beginPark p).ParkingOk := by
  unfold State.beginPark
  split
  · refine State.ParkingOk.recompute ⟨fun _ => busy, fun run q h => ?_⟩
    by_cases same : q = p
    · exact .inl (same ▸ rfl)
    · rw [State.setOp_panel, State.modPanel_panel_ne _ same] at h
      exact absurd h (idle.no_parking run q)
  · have parked : (s.modPanel p fun r => { r with cont := false, state := .parked }).ParkOver := idle.setPanel nofun
    exact (parked.complete _).recompute

theorem startLoadProfile_keepsParking : Start.KeepsParking startLoadProfile := by
  intro target arg s idle busy
  unfold startLoadProfile
  split
  · exact .ite (idle.complete _) (.ite (idle.complete _) (idle.beginRead busy _ _))
  · exact idle.complete _

theorem startSetLane_keepsParking : Start.KeepsParking startSetLane := by
  intro target arg s idle busy
  unfold startSetLane
  split
  · exact .ite (idle.complete _) (.ite (idle.complete _) (idle.beginRead busy _ _))
  · exact idle.complete _

theorem startSetTolerance_keepsParking : Start.KeepsParking startSetTolerance := fun _ _ _ idle busy =>
  .ite (idle.complete _) (idle.beginRead busy _ _)

theorem startBind_keepsParking : Start.KeepsParking startBind := fun target _ _ idle busy =>
  idle.withPanel target fun _ => .ite (idle.complete _) (.ite (idle.complete _) (idle.beginRead busy _ _))

theorem startUnbind_keepsParking : Start.KeepsParking startUnbind := fun target _ _ idle busy =>
  idle.withPanel target fun p => .ite (idle.beginUnbind busy p) (idle.complete _)

theorem startPark_keepsParking : Start.KeepsParking startPark := fun target arg s idle busy =>
  idle.withPanel target fun p => by
    split
    · exact idle.complete _
    · exact idle.beginPark busy p
    all_goals exact idle.complete _

theorem startResume_keepsParking : Start.KeepsParking startResume := fun target arg s idle busy =>
  idle.withPanel target fun p => by
    split
    · exact idle.complete _
    · exact idle.complete _
    · exact idle.complete _
    all_goals exact idle.beginResume p

theorem startRewind_keepsParking : Start.KeepsParking startRewind := fun target arg s idle busy =>
  idle.withPanel target fun p => by
    have checked : (if alignedAddr 64 arg then s.beginRewind p arg else s.complete .badField).ParkingOk :=
      .ite (idle.beginRewind busy p arg) (idle.complete _)
    split
    · exact idle.complete _
    · exact idle.complete _
    · exact idle.complete _
    all_goals exact checked

theorem startReport_keepsParking : Start.KeepsParking startReport := fun target arg s idle busy =>
  idle.withPanel target fun p => by
    split
    · have taken : (s.takeWrite { kind := .report, addr := arg
                                  data := reportBytes (s.panel p) (s.panel p).rowsDone }).ParkOver := idle.keep
      exact (taken.setOp busy _).recompute
    · exact idle.complete _

theorem startRetuneTe_keepsParking : Start.KeepsParking startRetuneTe := fun target arg s idle busy =>
  idle.withPanel target fun p => by
    dsimp only
    split
    · exact idle.complete _
    · split
      · next e f _ _ =>
        have retuned : (s.retune p e f (arg.extractLsb' 8 3).toNat).ParkOver := idle.setPanel id
        exact .ite (retuned.complete _).recompute (idle.complete _)
      · exact idle.complete _

theorem startBreakGate_keepsParking : Start.KeepsParking startBreakGate := by
  intro target arg s idle busy
  unfold startBreakGate
  dsimp only
  split
  · next h =>
    split
    · have broken : (s.breakGate ⟨target.toNat, h⟩ .request fun _ => true).ParkOver := idle.keep
      exact (broken.setOp (by simpa using busy) _).commit
    · exact idle.complete _
  · exact idle.complete _

theorem startBadRequest_keepsParking : Start.KeepsParking startBadRequest := fun _ _ _ idle _ => idle.complete _

theorem startOf_keepsParking (code : Byte) : Start.KeepsParking (startOf code) := by
  unfold startOf
  split
  · exact startLoadProfile_keepsParking
  · exact startSetLane_keepsParking
  · exact startSetTolerance_keepsParking
  · exact startBind_keepsParking
  · exact startUnbind_keepsParking
  · exact startPark_keepsParking
  · exact startResume_keepsParking
  · exact startRewind_keepsParking
  · exact startReport_keepsParking
  · exact startRetuneTe_keepsParking
  · exact startBreakGate_keepsParking
  · exact startBadRequest_keepsParking

theorem State.ParkingOk.request (ok : s.ParkingOk) (code target : Byte) {start : Start} (keeps : start.KeepsParking) :
    (s.request code target start).ParkingOk := by
  unfold State.request
  split
  · exact ok
  · split
    · exact ok.setCtl rfl rfl
    · next free =>
      have idle := ok.over_of_not_busy free
      have accepted : (s.setCtl (s.ctl.accepted code target)).ParkingOk :=
        ⟨fun waits => absurd rfl waits, fun run q h => absurd h (idle.no_parking run q)⟩
      exact keeps _ _ _ (accepted.over_of_op (op := .none) rfl) rfl

/-! ### PART_CONTROL, the resets and the period -/

theorem State.resetPanels_states (s : State) (q : PanelId) : (s.resetPanels.panel q).state = .unbound :=
  foldl_allPanels (fun q s => (s.panel q).state) (fun s p => s.setPanel p (.reset (s.tePin p))) (fun _ _ => .unbound)
    (by simp [Panel.reset]) (fun s p q other => by simp [State.setPanel_panel_ne _ other]) s q

theorem State.RequestOk.resetPanels (request : s.RequestOk) : s.resetPanels.ParkingOk := by
  refine ⟨?_, fun _ q h => ?_⟩
  · unfold State.RequestOk
    rw [State.resetPanels_ctl]
    exact request
  · rw [State.resetPanels_states] at h
    nomatch h

theorem State.ParkingOk.softResetValues (ok : s.ParkingOk) : s.softResetValues.ParkingOk := by
  have cleared := State.RequestOk.resetPanels
    (s := ((s.setPart .stopped).setTimer { count := 0, period := none }).setPort .reset) ok.1
  unfold State.softResetValues
  exact .foldl (fun s l ok => ok.setLane l _) allLanes (cleared.withGates _)

/-- RESETTING ends the request in progress, so every panel may stay as it is. -/
theorem State.enterReset_parkingOk (s : State) : s.enterReset.ParkingOk := by
  have entered : ((((s.setPart .resetting).setTimer { s.timer with period := none }).setCtl s.ctl.enterReset).setPort
      s.port.enterReset).ParkingOk := ⟨fun waits => absurd rfl waits, fun run => absurd rfl run⟩
  have aborted := entered.foldl (f := fun s l => s.abort l .softReset) (fun s l ok => ok.abort l _) allLanes
  exact (aborted.setTol _).sendLevel

theorem State.ParkingOk.setUnits (ok : s.ParkingOk) (units : BitVec 6) : (s.setUnits units).ParkingOk :=
  ok.setCtl rfl rfl

theorem State.setTolEnable_ctl (s : State) (en : Bool) :
    (s.setTolEnable en).ctl = { s.ctl with tolEnable := en } := by
  unfold State.setTolEnable
  dsimp only
  split
  · next same => rw [same]
  · split <;> simp

theorem State.ParkingOk.setTolEnable (ok : s.ParkingOk) (en : Bool) : (s.setTolEnable en).ParkingOk :=
  ok.of_left (by simp) (by rw [State.setTolEnable_ctl]) (by rw [State.setTolEnable_ctl]) (by simp)

theorem State.ParkingOk.softReset (ok : s.ParkingOk) (units : BitVec 6) (en : Bool) :
    (s.softReset units en).ParkingOk :=
  .ite ((ok.setUnits units).setTolEnable en) (State.enterReset_parkingOk _)

theorem State.ParkingOk.startRun (ok : s.ParkingOk) (stopped : s.part = .stopped) : s.startRun.ParkingOk := by
  have running : ((s.setPart .running).setTimer
      { s.timer with period := some (periodLength s.ctl.units, 0) }).ParkingOk :=
    ok.of_left (by simp [stopped]) rfl rfl fun _ => id
  have cleared := running.modPanels (f := fun r => { r with repoll := false }) fun _ => id
  exact ((cleared _).issuePolls _).commit

theorem State.ParkingOk.stopRun (ok : s.ParkingOk) (running : s.part = .running) : s.stopRun.ParkingOk := by
  have stopped : ((s.setPart .stopped).setTimer { s.timer with period := none }).ParkingOk :=
    ok.of_left (by simp [running]) rfl rfl fun _ => id
  have closed := stopped.modPanels (f := fun r => { r with tear := r.tear.stop }) fun _ => id
  exact (closed allPanels).recompute

theorem State.ParkingOk.writePartControl (ok : s.ParkingOk) (run : Bool) (units : BitVec 6) (en : Bool) :
    (s.writePartControl run units en).ParkingOk := by
  have written := (ok.setUnits units).setTolEnable en
  unfold State.writePartControl State.writeRun
  split
  · split
    · next stopped => exact written.startRun stopped
    · exact written
  · split
    · next running => exact written.stopRun running
    · exact written

/-! ### NUDGE and the writes of whole registers -/

theorem State.ParkingOk.nudge (ok : s.ParkingOk) (m : Half) : (s.nudge m).ParkingOk := by
  have marked := ok.modPanels (f := fun r => { r with repoll := true }) (fun _ => id) (s.nudgeMarks m)
  exact .ite ok (.ite marked (marked.issuePolls _).recompute)

theorem State.ParkingOk.busWrite (ok : s.ParkingOk) (reg : Reg) (v : Word) : (s.busWrite reg v).ParkingOk := by
  cases reg with
  | ident | period | ctlResult => exact ok
  | partControl =>
    exact .ite (ok.softReset _ _) (ok.writePartControl _ _ _)
  | partStatus =>
    rw [State.busWrite_partStatus]
    exact ok.setCtl rfl rfl
  | irqStatus =>
    rw [State.busWrite_irqStatus]
    exact ok.setCtl rfl rfl
  | ctlArg | notify | fault | irqLevels => exact ok.setCtl rfl rfl
  | ctlRequest => exact ok.request _ _ (startOf_keepsParking _)
  | nudge => exact ok.nudge _

/-! ### Responses from the bus -/

theorem State.ParkingOk.accessEnded (ok : s.ParkingOk) (p : PanelId) : (s.accessEnded p).ParkingOk := ok.keep

theorem State.ParkingOk.endAccessFault (ok : s.ParkingOk) (p : PanelId) (code : FaultCode) :
    (s.endAccessFault p code).ParkingOk :=
  have ended : (s.modPanel p fun r => { r with access := .idle, fetched := none }).ParkingOk := ok.modPanel fun _ => id
  (ended.haltFault p code).accessEnded p

theorem State.ParkingOk.malformedTicket (ok : s.ParkingOk) (p : PanelId) (addr : Word) (bs : List Byte) :
    (s.malformedTicket p addr bs).ParkingOk := by
  have written : (s.writeStatus p addr (ticketFlag bs 0)
      { state := .failed, reason := .malformed, detail := 0 } false).ParkingOk := ok.keep
  have moved := (written.haltFault p .malformed).modPanel (p := p)
    (f := fun r => { r with access := .idle, cursor := cursorPast addr (ticketLink bs) }) fun _ => id
  exact moved.accessEnded p

theorem State.ParkingOk.ticketRead (ok : s.ParkingOk) (p : PanelId) (resp : Option (List Byte)) :
    (s.ticketRead p resp).ParkingOk := by
  unfold State.ticketRead
  dsimp only
  split
  · exact ok.endAccessFault p _
  · split
    · exact ok.endAccessFault p _
    · split
      · exact ok.malformedTicket p _ _
      · next t _ =>
        have taking : (s.takeWrite
          { kind := .taken p, addr := t.addr + 8, data := statusBytes .taken .none 0 }).ParkingOk := ok.keep
        exact taking.modPanel fun _ => id

theorem State.ParkingOk.taken (ok : s.ParkingOk) (p : PanelId) : (s.taken p).ParkingOk := by
  unfold State.taken
  dsimp only
  split
  · exact ok
  · next t link _ =>
    have took : (s.take p t).ParkingOk := ok.keep
    have moved := took.modPanel (p := p)
      (f := fun r => { r with cursor := cursorPast t.addr link, access := .idle, fetched := none }) fun _ => id
    exact (State.ParkingOk.ite (moved.haltFault p _) moved).accessEnded p

theorem State.ParkingOk.takenAnswered (ok : s.ParkingOk) (kind : WriteKind) (resp : WriteResp) :
    (s.takenAnswered kind resp).ParkingOk := by
  unfold State.takenAnswered
  split
  · split
    · exact ok.taken _
    · exact ok.endAccessFault _ _
  · exact ok

theorem State.ParkingOk.repollAgain (ok : s.ParkingOk) (p : PanelId) : (s.repollAgain p).ParkingOk := by
  have cleared : (s.setPanel p { s.panel p with repoll := false }).ParkingOk := ok.setPanel id
  exact .ite (.ite (cleared.issuePoll p) ok) cleared

theorem State.ParkingOk.linkPolled (ok : s.ParkingOk) (p : PanelId) (resp : Option (List Byte)) :
    (s.linkPolled p resp).ParkingOk := by
  have idle : (s.modPanel p fun r => { r with access := .idle }).ParkingOk := ok.modPanel fun _ => id
  have cleared := idle.modPanel (p := p) (f := fun r => { r with repoll := false }) fun _ => id
  unfold State.linkPolled
  dsimp only
  split
  · exact (cleared.haltFault p _).accessEnded p
  · split
    · split
      · exact (idle.repollAgain p).accessEnded p
      · exact idle.accessEnded p
    · split
      · next bs _ _ =>
        have known := idle.modPanel (p := p)
          (f := fun r => { r with repoll := false, cursor := .nextKnown (word32 bs 0) }) fun _ => id
        exact known.accessEnded p
      · exact (cleared.haltFault p _).accessEnded p

theorem State.ParkingOk.statusBits (ok : s.ParkingOk) (p : PanelId) (st : Status) (notify : Bool) :
    (s.statusBits p st notify).ParkingOk := by
  have noted : (if notify then s.setNotifyBit p else s).ParkingOk := .ite (ok.setCtl rfl rfl) ok
  exact .ite (noted.setFaultBit p) noted

theorem State.ParkingOk.statusAnswered (ok : s.ParkingOk) (kind : WriteKind) (resp : WriteResp) :
    (s.statusAnswered kind resp).ParkingOk := by
  unfold State.statusAnswered
  split
  · next p st notify own =>
    split
    · exact ok.statusBits ..
    · have halted := ok.haltFault p .writebackError
      exact .ite (halted.setCtl rfl rfl) halted
  · exact ok

theorem State.ParkingOk.replyAnswered (ok : s.ParkingOk) (kind : WriteKind) (resp : WriteResp) :
    (s.replyAnswered kind resp).ParkingOk := by
  unfold State.replyAnswered
  split
  · split
    · exact ok
    · exact ok.haltFault _ _
  · exact ok

theorem State.ParkingOk.reportAnswered (ok : s.ParkingOk) (resp : WriteResp) : (s.reportAnswered resp).ParkingOk := by
  unfold State.reportAnswered
  split
  · next waits => exact (ok.over_of_op waits).complete _
  · next waits => exact (ok.over_of_op waits).complete _
  · exact ok

theorem State.ParkingOk.pixelDiscarded (ok : s.ParkingOk) (l : LaneId) (b : BufId) :
    (s.pixelDiscarded l b).ParkingOk := by
  obtain same | ⟨_, _, freed⟩ := s.pixelDiscarded_eq l b
  · rw [same]
    exact ok
  · rw [freed]
    exact ok.setLane l _

theorem State.ParkingOk.requestRows (ok : s.ParkingOk) (l : LaneId) : (s.requestRows l).ParkingOk := ok.keep

theorem State.ParkingOk.rowAnswered (ok : s.ParkingOk) (l : LaneId) (b : BufId) (row want : Nat)
    (got : List (Nat × List Byte)) (err : Bool) : (s.rowAnswered l b row want got err).ParkingOk := by
  unfold State.rowAnswered State.rowWhole
  split
  · exact ok.pixelError l
  · split
    · split
      · exact ok
      · exact (ok.setLane l _).requestRows l
    · exact ok

theorem State.ParkingOk.pixelAnswered (ok : s.ParkingOk) (l : LaneId) (b : BufId) (off : Nat)
    (resp : Option (List Byte)) : (s.pixelAnswered l b off resp).ParkingOk := by
  unfold State.pixelAnswered
  dsimp only
  split
  · exact .ite ((ok.setLane l _).rowAnswered ..) (ok.setLane l _)
  · exact .ite ((ok.setLane l _).requestRows l) ok
  · exact ok
  · exact ok

theorem State.ParkingOk.unlessResetting (ok : s.ParkingOk) {f : State → State} (applied : (f s).ParkingOk) :
    (s.unlessResetting f).ParkingOk :=
  .ite ok applied.commit

/-- The last part of a control read that keeps the invariant, whichever record was read. -/
def FinishKeepsParking (finish : RecordKind → Option (List Byte) → State → State) : Prop :=
  ∀ kind bs s, s.ParkOver → (finish kind bs s).ParkingOk

theorem finishProfile_keepsParking : FinishKeepsParking finishProfile := by
  intro kind bs s idle
  unfold finishProfile
  split
  · next slot bs =>
    split
    · next pf _ =>
      have loaded : (s.setProfile slot pf).ParkOver := idle.keep
      exact (loaded.complete _).recompute
    · exact (idle.complete _).recompute
  · exact (idle.complete _).recompute

theorem finishLane_keepsParking : FinishKeepsParking finishLane := by
  intro kind bs s idle
  unfold finishLane
  split
  · next l bs =>
    split
    · next rate cap res _ =>
      have setUp : (s.modLane l fun ln => ln.setUp rate cap res).ParkOver := idle.keep
      exact (setUp.complete _).recompute
    · exact (idle.complete _).recompute
  · exact (idle.complete _).recompute

theorem finishTolerance_keepsParking : FinishKeepsParking finishTolerance := by
  intro kind bs s idle
  unfold finishTolerance
  split
  · split
    · next rec' _ =>
      have loaded : (s.loadTolerance rec').ParkOver :=
        idle.keep (by simp [State.loadTolerance]) (by simp [State.loadTolerance]) (by simp [State.loadTolerance])
      exact loaded.complete _
    · exact (idle.complete _).recompute
  · exact (idle.complete _).recompute

theorem finishDescriptor_keepsParking : FinishKeepsParking finishDescriptor := by
  intro kind bs s idle
  unfold finishDescriptor
  split
  · next p bs =>
    split
    · next d _ =>
      have bound : (s.setPanel p (.bindTo d (s.tePin p))).ParkOver := idle.setPanel (by simp [Panel.bindTo])
      exact ((bound.setLane d.lane _).complete _).recompute
    · exact (idle.complete _).recompute
  · exact (idle.complete _).recompute

theorem State.ParkingOk.controlAnswered (ok : s.ParkingOk) (off : Nat) (resp : Option (List Byte))
    {finish : RecordKind → Option (List Byte) → State → State} (keeps : FinishKeepsParking finish) :
    (s.controlAnswered off resp finish).ParkingOk := by
  unfold State.controlAnswered
  split
  · next waits =>
    have reading := fun op => (ok.over_of_op waits).setOp (ok.busy waits nofun) op
    exact .ite (reading _).recompute (keeps _ _ _ ((reading (.reading ..)).over_of_op rfl))
  · exact ok

/-! ### Completions -/

theorem State.parkDone_eq (s : State) (p : PanelId) :
    s.parkDone p = if s.ctl.op.parks p then s.complete .ok else s := by
  unfold State.parkDone
  split <;> simp_all [ReqOp.parks]

theorem State.ParkingOk.parkDone (ok : s.ParkingOk) {p : PanelId} (left : (s.panel p).state ≠ .parking) :
    (s.parkDone p).ParkingOk := by
  rw [State.parkDone_eq]
  split
  · next parks => exact (ok.over_of_panel parks left).complete _
  · exact ok

theorem State.ParkingOk.applyCompletion (ok : s.ParkingOk) (p : PanelId) (work : Work) (reply : List Byte) :
    (s.applyCompletion p work reply).ParkingOk :=
  have applied : (s.applyWork p work reply).ParkingOk := ok.keep
  (applied.endParking p).parkDone (by simp [Panel.endParking_not_parking])

/-- TRANSACTION_COMPLETION, whichever way it finds the lane and the part. -/
theorem State.ParkingOk.exec_transactionCompletion (ok : s.ParkingOk) (l : LaneId) :
    Ensures (exec (.transactionCompletion l) s) State.ParkingOk := by
  have idle := ok.setLane l (s.lane l).toIdle
  refine .next ?_
  dsimp only
  split
  · split
    · exact idle
    · split
      · exact idle.commit
      · exact (idle.applyCompletion ..).commit
  all_goals exact ok

/-! ### Pins, periods and the request arbiter -/

theorem State.ParkingOk.sampleAll (ok : s.ParkingOk) (levels : Half) : (s.sampleAll levels).ParkingOk :=
  ok.keep (s.sampleAll_keeps (·.part) (by simp) (by simp) levels) (s.sampleAll_keeps (·.ctl) (by simp) (by simp) levels)
    fun q => by rw [State.sampleAll_panel]

theorem State.ParkingOk.acceptEdge (ok : s.ParkingOk) (p : PanelId) (e : Edge) : (s.acceptEdge p e).ParkingOk := ok.keep

theorem State.ParkingOk.boundary (ok : s.ParkingOk) : s.boundary.ParkingOk := ok.keep

theorem State.ParkingOk.holdExpired (ok : s.ParkingOk) (p : PanelId) : (s.holdExpired p).ParkingOk :=
  have closed : (s.modPanel p fun r => { r with tear := r.tear.close }).ParkingOk := ok.modPanel fun _ => id
  .ite closed.recompute ok

theorem State.ParkingOk.trackingLost (ok : s.ParkingOk) (p : PanelId) : (s.trackingLost p).ParkingOk :=
  have lost : (s.modPanel p fun r => { r with tear := r.tear.enterUntracked false, fault := .teLost }).ParkingOk :=
    ok.modPanel fun _ => id
  (lost.setFaultBit p).recompute

theorem State.parkRunsOut_iff (s : State) (p : PanelId) : s.parkRunsOut p = true ↔
    s.ctl.op = .parkWait p ∧ (s.panel p).state = .parking ∧ (s.panel p).parkWait = 0 ∧ s.part ≠ .resetting := by
  simp [State.parkRunsOut, and_assoc]

/-- FORCED_PARK, the PARK in progress going on to its abort. -/
theorem State.ParkingOk.exec_forcedPark (ok : s.ParkingOk) (w : WaitEnd) :
    Ensures (exec (.forcedPark w) s) State.ParkingOk := by
  refine .ifDue ok fun due => ?_
  obtain ⟨waits, _⟩ := (s.parkRunsOut_iff w.panel).mp due
  have forced : (s.setOp (.parkForced w.panel)).ParkingOk := by
    refine ⟨fun _ => ok.busy waits nofun, fun run q h => .inr ?_⟩
    rw [ReqOp.parks_unique (.inl waits) (ok.2 run q h)]
    rfl
  exact (forced.forcePark w).commit

/-! ### The commands -/

theorem State.ParkingOk.readFreed (ok : s.ParkingOk) (x : ReadTxn) : (s.readFreed x).ParkingOk := ok.keep

theorem State.ParkingOk.writeFreed (ok : s.ParkingOk) (rest : List WriteTxn) : (s.writeFreed rest).ParkingOk := ok.keep

/-- A response to a control read keeps the invariant that its last part keeps. -/
theorem State.ParkingOk.answerControl (ok : s.ParkingOk) {isKind : RecordKind → Bool} {off : Nat} {resp : ReadResp}
    {finish : RecordKind → Option (List Byte) → State → State} (keeps : FinishKeepsParking finish) :
    Ensures (s.answerControl isKind off resp finish) State.ParkingOk :=
  .answerRead fun x bs => .ite (ok.readFreed x) ((ok.readFreed x).controlAnswered off bs keeps)

end

theorem exec_keepsParking (c : Instr) (s : State) (ok : s.ParkingOk) : Ensures (exec c s) State.ParkingOk := by
  cases c with
  | pinReset => exact .next (State.RequestOk.resetPanels fun waits => absurd rfl waits)
  | softReset => exact .next (ok.softReset _ _)
  | drainComplete => exact .ifDue ok fun _ => ok.softResetValues.recompute
  | runStart | runStop | periodUnitsWrite | tolEnableWrite => exact .next (ok.writePartControl _ _ _)
  | nudge m => exact .next (ok.nudge m)
  | notifyClear | faultClear | ctlDoneClear | irqLevelsWrite => exact .next (ok.setCtl rfl rfl)
  | ctlOverrunClear =>
    rw [exec_ctlOverrunClear]
    exact .next (ok.setCtl rfl rfl)
  | registerWrite reg v => exact .next (ok.busWrite reg v)
  | loadProfile => exact .next (ok.request _ _ startLoadProfile_keepsParking)
  | setLane => exact .next (ok.request _ _ startSetLane_keepsParking)
  | setTolerance => exact .next (ok.request _ _ startSetTolerance_keepsParking)
  | bind => exact .next (ok.request _ _ startBind_keepsParking)
  | unbind => exact .next (ok.request _ _ startUnbind_keepsParking)
  | park => exact .next (ok.request _ _ startPark_keepsParking)
  | resume => exact .next (ok.request _ _ startResume_keepsParking)
  | rewind => exact .next (ok.request _ _ startRewind_keepsParking)
  | report => exact .next (ok.request _ _ startReport_keepsParking)
  | retuneTe => exact .next (ok.request _ _ startRetuneTe_keepsParking)
  | breakGate => exact .next (ok.request _ _ startBreakGate_keepsParking)
  | badRequest code => exact .next (ok.request _ _ (startOf_keepsParking code))
  | qualifiedEdge p e => exact .ifDue ok fun _ => ok.acceptEdge p e
  | teFilterSample levels =>
    rw [exec_teFilterSample]
    exact .next (ok.sampleAll levels)
  | throttleHigh | tolAccept => exact .next (.ite ok ok.keep)
  | throttleLow => exact .next (.ite ok.keep ok)
  | tolAcceptLow => exact .next ok.keep
  | periodBoundary => exact .ifDue ok fun _ => ok.boundary
  | forcedPark w => exact ok.exec_forcedPark w
  | settleEnd p => exact .ifDue ok fun _ => State.ParkingOk.commit (s := s.endSettle p) ok.keep
  | expiry p => exact .ifDue ok fun _ => State.ParkingOk.commit (s := s.endTickets p _ _) ok.keep
  | holdExpiry p => exact .next (ok.holdExpired p)
  | teLost p => exact .ifDue ok fun _ => ok.trackingLost p
  | gateTimeout => exact .ifDue ok fun _ => State.ParkingOk.commit (s := s.breakGates _ _ _) ok.keep
  | ticketFetch p =>
    have fetching : (s.modPanel p fun r => { r with access := .fetching }).ParkingOk := ok.modPanel fun _ => id
    exact .ifDue ok fun _ => (fetching.takeChainRead _).recompute
  | memoryRequestSent | laneGrant =>
    refine .next ?_
    split
    · exact ok
    · exact ok.keep
  | byteTimeEnd l =>
    refine .next ?_
    split
    · exact ((ok.setLane l _).requestRows l).recompute
    · exact (ok.deassert l).commit
    all_goals exact ok
  | gapAfterAbortEnd l =>
    refine .next ?_
    split
    · exact (ok.setLane l _).recompute
    all_goals exact ok
  | transactionCompletion l => exact ok.exec_transactionCompletion l
  | ticketReadAnswered p =>
    rw [exec_ticketReadAnswered]
    exact .answerRead fun x bs => (ok.readFreed x).unlessResetting ((ok.readFreed x).ticketRead p bs)
  | linkPollAnswered p =>
    rw [exec_linkPollAnswered]
    exact .answerRead fun x bs => (ok.readFreed x).unlessResetting ((ok.readFreed x).linkPolled p bs)
  | pixelFetchAnswered l b off =>
    rw [exec_pixelFetchAnswered]
    exact .answerRead fun x bs =>
      .ite ((ok.readFreed x).pixelDiscarded l b) ((ok.readFreed x).pixelAnswered l b off bs).commit
  | takenWriteAnswered resp =>
    rw [exec_takenWriteAnswered]
    exact .answerWrite fun w rest => (ok.writeFreed rest).unlessResetting ((ok.writeFreed rest).takenAnswered _ resp)
  | statusWriteAnswered resp =>
    rw [exec_statusWriteAnswered]
    exact .answerWrite fun w rest => (ok.writeFreed rest).unlessResetting ((ok.writeFreed rest).statusAnswered _ resp)
  | replyWriteAnswered resp =>
    rw [exec_replyWriteAnswered]
    exact .answerWrite fun w rest => (ok.writeFreed rest).unlessResetting ((ok.writeFreed rest).replyAnswered _ resp)
  | reportWriteAnswered resp =>
    rw [exec_reportWriteAnswered]
    exact .answerWrite fun w rest => .ite (ok.writeFreed rest) ((ok.writeFreed rest).reportAnswered resp).recompute
  | profileReadAnswered => exact ok.answerControl finishProfile_keepsParking
  | laneRecordReadAnswered => exact ok.answerControl finishLane_keepsParking
  | toleranceReadAnswered => exact ok.answerControl finishTolerance_keepsParking
  | descriptorReadAnswered => exact ok.answerControl finishDescriptor_keepsParking

/-- Settles O59: the idle tick moves the timer alone, and every command keeps the invariant. -/
theorem stepsKeepParkingUnderItsPark : Obligations.StepsKeepParkingUnderItsPark := fun s t ok =>
  Ensures.step (Q := State.ParkingOk) (ok.keep rfl rfl fun _ => rfl)
    (fun c rest => exec_keepsParking c { s with pending := rest } ok) t

end Sys2Proof.Machine
end
